-- ==== Sys2Proof/Word.lean ====
section
/-! DEFINITION. The word types of QBQ: the 32-bit word both ports move (20_memory.md R53, R54), and a byte of a
byte-serial transport. Nothing here can be wrong about the hardware but the width. -/

namespace Sys2Proof

/-- A 32-bit word: a FixedValue, a command word, a data word or a result word (R6 `W`, R50). -/
abbrev Word := BitVec 32

/-- One byte of a byte-serial transport (R53). -/
abbrev Byte := BitVec 8

end Sys2Proof
end

