-- ==== Sys2Proof/Config.lean ====
section
/-! DEFINITION. What an implementation fixes: the parameters of 00_scope.md R6.
The constants below shape the types of the state. The two parameters that change an arithmetic result, MUL_ROUND and
BQ_SUM_MODE, are arguments of the arithmetic (`Params`); the values this hardware has stand in Machine/FixedPoint.lean. -/

namespace Sys2Proof.Config

/-- MAX_STAGES, the number of stage slots (R6; decision D29; log 6). -/
abbrev maxStages : Nat := 20

/-- F, the fractional bits of a FixedValue (R6, R7). -/
abbrev fracBits : Nat := 28

/-- ACC_BITS, the width of the host accumulator (R6, R24; decision D5; log 6). -/
abbrev accBits : Nat := 40

/-- S16, the shift between a 16-bit sample and a FixedValue (R6, R104). -/
abbrev sampleShift : Nat := 13

/-- MUL_ROUND: how a product is reduced by 2^F (R6, R101). -/
inductive MulRound where
  /-- `floor_div`, an arithmetic shift right: this hardware's value. -/
  | floor
  /-- `tz_div`, truncation toward zero. -/
  | towardZero
  /-- `rha_div`, to nearest with halves away from zero. -/
  | halfAway
deriving DecidableEq, Repr

/-- BQ_SUM_MODE: how the five biquad products are summed (R6, R170). -/
inductive SumMode where
  /-- One saturation of the exact sum: this hardware's value. -/
  | satFinal
  /-- The exact sum wrapped to 32 bits. -/
  | wrap32
deriving DecidableEq, Repr

/-- The open parameters of the arithmetic, taken as an argument by every function that depends on them (R6, R101, R170). -/
structure Params where
  mulRound : MulRound
  sumMode : SumMode
deriving DecidableEq, Repr

end Sys2Proof.Config
end

