-- ==== Sys2Proof/Machine/FixedPoint.lean ====
section
/-! DEFINITION. The Q(3.28) arithmetic every family uses: the integer primitives of 00_scope.md R9, and QMul, AccAdd,
AccRead, FromI16 and ToI16 of 40_mac.md R100 to R105. Values are computed exactly on integers and put back into a width
once, by a saturation or a wrap (R8). -/

namespace Sys2Proof.Machine

/-- The values this hardware has for the arithmetic's open parameters: FLOOR and SAT_FINAL (R6; log 5). -/
def hwParams : Config.Params := ⟨.floor, .satFinal⟩

/-! ### Integer primitives (R9) -/

/-- A word with its saturation indication: the pair `(w, s)` of `Sat_N`. -/
structure Satd (n : Nat) where
  word : BitVec n
  sat : Bool
deriving DecidableEq, Repr

/-- `Sat_N(n)`. -/
def satTo (width : Nat) (n : Int) : Satd width :=
  if n > 2 ^ (width - 1) - 1 then ⟨BitVec.ofInt width (2 ^ (width - 1) - 1), true⟩
  else if n < -(2 ^ (width - 1)) then ⟨BitVec.ofInt width (-(2 ^ (width - 1))), true⟩
  else ⟨BitVec.ofInt width n, false⟩

/-- `floor_div(n, 2^k)`: the greatest integer not above the quotient. -/
def floorDiv (n : Int) (k : Nat) : Int := n / 2 ^ k

/-- `tz_div(n, 2^k)`: the quotient truncated toward zero. -/
def tzDiv (n : Int) (k : Nat) : Int := n.tdiv (2 ^ k)

/-- `rha_div(n, 2^k)`: the nearest integer, halves away from zero, `sign(n) · floor_div(|n| + 2^(k-1), 2^k)`. -/
def rhaDiv (n : Int) (k : Nat) : Int := n.sign * floorDiv ((n.natAbs : Int) + 2 ^ (k - 1)) k

/-! ### Multiplier (R100 to R102) -/

/-- `Reduce(p)`: removes the F fractional bits of the double-width product (R101). -/
def reduceProduct (m : Config.MulRound) (p : Int) : Int :=
  match m with
  | .floor => floorDiv p Config.fracBits
  | .towardZero => tzDiv p Config.fracBits
  | .halfAway => rhaDiv p Config.fracBits

/-- `QMul(a, b)` (R100): exact product, reduction, saturation. -/
def qMul (P : Config.Params) (a b : Word) : Satd 32 := satTo 32 (reduceProduct P.mulRound (a.toInt * b.toInt))

/-! ### Accumulator (R103) -/

/-- `AccAdd(acc, d)`: the exact sum saturated to ACC_BITS. -/
def accAdd (acc : BitVec Config.accBits) (d : Int) : Satd Config.accBits := satTo Config.accBits (acc.toInt + d)

/-- `AccRead(acc)`: the accumulator saturated to a FixedValue. -/
def accRead (acc : BitVec Config.accBits) : Satd 32 := satTo 32 acc.toInt

/-- `sext_40(DATA)`, the value ALD loads (R116). -/
def accOfWord (data : Word) : BitVec Config.accBits := data.signExtend Config.accBits

/-! ### Sample conversion (R104, R105) -/

/-- `FromI16(h)` (R104). -/
def fromI16 (h : BitVec 16) : Word := BitVec.ofInt 32 (h.toInt * 2 ^ Config.sampleShift)

/-- `ToI16(v)` (R105). -/
def toI16 (v : Word) : Satd 16 := satTo 16 (rhaDiv v.toInt Config.sampleShift)

/-- `sext_32(h)` of a 16-bit sample (R118, R181). -/
def sextSample (h : BitVec 16) : Word := h.signExtend 32

/-! ### The biquad sum (R170) -/

/-- The exact five-product sum put back into a word: `Sat_32` under SAT_FINAL, `wrap_32` with its overflow bit under WRAP32. -/
def bqSum (m : Config.SumMode) (n : Int) : Satd 32 :=
  match m with
  | .satFinal => satTo 32 n
  | .wrap32 => ⟨BitVec.ofInt 32 n, decide (n < -(2 ^ 31) ∨ n > 2 ^ 31 - 1)⟩

end Sys2Proof.Machine
end

