-- ==== Sys2Proof/Syntax.lean ====
section
/-! DEFINITION. The syntax of QBQ: what travels over the two ports (20_memory.md R50), the refusal codes by name
(60_exceptions.md R271), and the instructions, one constructor for each row of spec/opcode_table.json. -/

namespace Sys2Proof

/-- One transaction as it stands on a port (R50, R70, R80). -/
inductive Transaction where
  /-- A command-port transaction: the command word CMD and the data word DATA. -/
  | command (cmd data : Word)
  /-- A sample-port transaction: the operation code SOP and the input words IN_L and IN_R. -/
  | sample (sop : BitVec 2) (inL inR : Word)
deriving DecidableEq, Repr

/-- The refusals of the command port, by the names of R271. -/
inductive CmdError where
  /-- OPC is not in the opcode map (R74, R75 b). -/
  | illegalOpcode
  /-- RSV, or an unused STG or SEL, is not zero (R75 c). -/
  | rsvd
  /-- STG is not below MAX_STAGES (R71). -/
  | badStage
  /-- SEL lies above the opcode's range (R71). -/
  | badSelect
  /-- WKIND with DATA above 9 (R76). -/
  | badKind
  /-- WNST with DATA above MAX_STAGES (R202). -/
  | badNstages
  /-- A shadow write while a commit is pending (R203). -/
  | busy
  /-- COMMIT with a stage below SH_NST that has no kind (R210). -/
  | incomplete
deriving DecidableEq, Repr

/-- The 25 commands (R74) and the 4 sample-port operations (R80). `stg` and `sel` are the 8-bit fields of the command
word as they stand there, in range or not (R71); `data`, `inL` and `inR` are whole port words. A field or a word that
the row ignores is no argument. -/
inductive Instr where
  /-- 0x00 NOP (R250). -/
  | nop
  /-- 0x01 LDA (R110). -/
  | lda (data : Word)
  /-- 0x02 QMUL (R111). -/
  | qmul (data : Word)
  /-- 0x03 MAC (R112). -/
  | mac (data : Word)
  /-- 0x04 MSU (R113). -/
  | msu (data : Word)
  /-- 0x05 ACLR (R114). -/
  | aclr
  /-- 0x06 ARD (R115). -/
  | ard
  /-- 0x07 ALD (R116). -/
  | ald (data : Word)
  /-- 0x08 CVTIQ (R117). -/
  | cvtiq (data : Word)
  /-- 0x09 CVTQI (R118). -/
  | cvtqi (data : Word)
  /-- 0x10 WKIND (R200). -/
  | wkind (stg : BitVec 8) (data : Word)
  /-- 0x11 WCOEF (R201). -/
  | wcoef (stg sel : BitVec 8) (data : Word)
  /-- 0x12 WNST (R202). -/
  | wnst (data : Word)
  /-- 0x13 RSCOEF (R204). -/
  | rscoef (stg sel : BitVec 8)
  /-- 0x14 RSKIND (R205). -/
  | rskind (stg : BitVec 8)
  /-- 0x15 RNST (R206). -/
  | rnst (sel : BitVec 8)
  /-- 0x16 RACOEF (R207). -/
  | racoef (stg sel : BitVec 8)
  /-- 0x17 RAKIND (R208). -/
  | rakind (stg : BitVec 8)
  /-- 0x18 RSTATE (R209). -/
  | rstate (stg sel : BitVec 8)
  /-- 0x20 COMMIT (R210). -/
  | commit
  /-- 0x21 RSTST (R211). -/
  | rstst (stg : BitVec 8)
  /-- 0x22 RSTALL (R212). -/
  | rstall
  /-- 0x23 RSTAT (R251). -/
  | rstat
  /-- 0x24 RID (R252). -/
  | rid
  /-- 0x25 CLRST (R253). -/
  | clrst
  /-- SOP 0b00 IDLE (R182). -/
  | idle
  /-- SOP 0b01 SAMPLE (R180). -/
  | sample (inL inR : Word)
  /-- SOP 0b10 BOUNDARY (R220). -/
  | boundary
  /-- SOP 0b11 SAMPLE16 (R181). -/
  | sample16 (inL inR : Word)
deriving DecidableEq, Repr

end Sys2Proof
end

