-- ==== Sys2Proof/WellFormed.lean ====
section
/-! DEFINITION. Which instructions are legal commands in the sense of 30_encoding.md R75 (a): every STG and SEL value
lies in its range (R71, R74). An instruction that is not well formed still has a meaning: the command is refused with
BAD_STAGE or BAD_SELECT (R75 d). -/

namespace Sys2Proof

/-- STG names a stage slot: `STG < MAX_STAGES` (R71). -/
def stageInRange (stg : BitVec 8) : Bool := decide (stg.toNat < Config.maxStages)

/-- SEL lies in the range 0..top of its opcode (R71, R74 column "SEL range"). -/
def selInRange (top : Nat) (sel : BitVec 8) : Bool := decide (sel.toNat ≤ top)

/-- The field ranges of R74: the stage of every opcode that uses STG, and the selector of every opcode that uses SEL. -/
def Instr.wellFormed : Instr → Bool
  | .wkind stg _ => stageInRange stg
  | .wcoef stg sel _ => stageInRange stg && selInRange 5 sel
  | .rscoef stg sel => stageInRange stg && selInRange 5 sel
  | .rskind stg => stageInRange stg
  | .rnst sel => selInRange 1 sel
  | .racoef stg sel => stageInRange stg && selInRange 5 sel
  | .rakind stg => stageInRange stg
  | .rstate stg sel => stageInRange stg && selInRange 7 sel
  | .rstst stg => stageInRange stg
  | .nop | .lda _ | .qmul _ | .mac _ | .msu _ | .aclr | .ard | .ald _ | .cvtiq _ | .cvtqi _ => true
  | .wnst _ | .commit | .rstall | .rstat | .rid | .clrst => true
  | .idle | .sample _ _ | .boundary | .sample16 _ _ => true

end Sys2Proof
end

