-- ==== Sys2Proof/Decode.lean ====
section
/-! DEFINITION. Decoding and encoding of port transactions: the command-word fields (30_encoding.md R70), the opcode map
(R74), the classification of every command word (R75), the sample-port codes (R80), the encoder (R70), the refusal codes
(60_exceptions.md R271), and the byte order of a byte-serial transport (20_memory.md R53).

The decoder checks what R272 checks first: the opcode, then the reserved fields. The two range checks that follow,
BAD_STAGE and BAD_SELECT, are listed under the errors of each instruction and are made by its meaning (log 8). -/

namespace Sys2Proof

/-- The value ERRCODE takes for each refusal (R271). -/
def CmdError.code : CmdError → BitVec 8
  | .illegalOpcode => 0x01
  | .rsvd => 0x02
  | .badStage => 0x03
  | .badSelect => 0x04
  | .badKind => 0x05
  | .badNstages => 0x06
  | .busy => 0x07
  | .incomplete => 0x08

/-! ### Fields of a command word (R70) -/

/-- OPC = CMD[31:24]. -/
def opcField (cmd : Word) : BitVec 8 := cmd.extractLsb' 24 8

/-- STG = CMD[23:16]. -/
def stgField (cmd : Word) : BitVec 8 := cmd.extractLsb' 16 8

/-- SEL = CMD[15:8]. -/
def selField (cmd : Word) : BitVec 8 := cmd.extractLsb' 8 8

/-- RSV = CMD[7:0]. -/
def rsvField (cmd : Word) : BitVec 8 := cmd.extractLsb' 0 8

/-! ### The opcode map (R74) -/

/-- One row of R74: the opcode, whether the row uses STG and SEL, and the instruction built from STG, SEL and DATA. -/
structure OpRow where
  opc : BitVec 8
  usesStg : Bool
  usesSel : Bool
  build : BitVec 8 → BitVec 8 → Word → Instr

/-- The rows 0x00 to 0x09 of R74: NOP and the commands of 40_mac.md. -/
def arithRows : List OpRow :=
  [ ⟨0x00, false, false, fun _ _ _ => .nop⟩,
    ⟨0x01, false, false, fun _ _ d => .lda d⟩,
    ⟨0x02, false, false, fun _ _ d => .qmul d⟩,
    ⟨0x03, false, false, fun _ _ d => .mac d⟩,
    ⟨0x04, false, false, fun _ _ d => .msu d⟩,
    ⟨0x05, false, false, fun _ _ _ => .aclr⟩,
    ⟨0x06, false, false, fun _ _ _ => .ard⟩,
    ⟨0x07, false, false, fun _ _ d => .ald d⟩,
    ⟨0x08, false, false, fun _ _ d => .cvtiq d⟩,
    ⟨0x09, false, false, fun _ _ d => .cvtqi d⟩ ]

/-- The rows 0x10 to 0x18 of R74: the memory commands of 43_chain.md. -/
def memoryRows : List OpRow :=
  [ ⟨0x10, true, false, fun s _ d => .wkind s d⟩,
    ⟨0x11, true, true, fun s k d => .wcoef s k d⟩,
    ⟨0x12, false, false, fun _ _ d => .wnst d⟩,
    ⟨0x13, true, true, fun s k _ => .rscoef s k⟩,
    ⟨0x14, true, false, fun s _ _ => .rskind s⟩,
    ⟨0x15, false, true, fun _ k _ => .rnst k⟩,
    ⟨0x16, true, true, fun s k _ => .racoef s k⟩,
    ⟨0x17, true, false, fun s _ _ => .rakind s⟩,
    ⟨0x18, true, true, fun s k _ => .rstate s k⟩ ]

/-- The rows 0x20 to 0x25 of R74: the requests of 43_chain.md and the commands of 44_control.md. -/
def controlRows : List OpRow :=
  [ ⟨0x20, false, false, fun _ _ _ => .commit⟩,
    ⟨0x21, true, false, fun s _ _ => .rstst s⟩,
    ⟨0x22, false, false, fun _ _ _ => .rstall⟩,
    ⟨0x23, false, false, fun _ _ _ => .rstat⟩,
    ⟨0x24, false, false, fun _ _ _ => .rid⟩,
    ⟨0x25, false, false, fun _ _ _ => .clrst⟩ ]

/-- The whole opcode map (R74). -/
def opRows : List OpRow := arithRows ++ memoryRows ++ controlRows

/-- The row of an opcode, if R74 has one. -/
def rowOf (opc : BitVec 8) : Option OpRow := opRows.find? fun r => r.opc == opc

/-- The reserved-field check (R271 RSVD): RSV is 0, and STG and SEL are 0 where the row does not use them. -/
def OpRow.fieldsClear (r : OpRow) (cmd : Word) : Bool :=
  rsvField cmd == 0 && (r.usesStg || stgField cmd == 0) && (r.usesSel || selField cmd == 0)

/-! ### Decoding -/

/-- The command port's decoder (R75 a to c, R272 checks 1 and 2), total on every pair of words. -/
def decodeCommand (cmd data : Word) : Except CmdError Instr :=
  match rowOf (opcField cmd) with
  | none => .error .illegalOpcode
  | some r => if r.fieldsClear cmd then .ok (r.build (stgField cmd) (selField cmd) data) else .error .rsvd

/-- The sample port's decoder (R80): all four codes are defined. -/
def decodeSample (sop : BitVec 2) (inL inR : Word) : Instr :=
  if sop = 0b00 then .idle
  else if sop = 0b01 then .sample inL inR
  else if sop = 0b10 then .boundary
  else .sample16 inL inR

/-- The decoder of a transaction on either port. -/
def decode : Transaction → Except CmdError Instr
  | .command cmd data => decodeCommand cmd data
  | .sample sop inL inR => .ok (decodeSample sop inL inR)

/-! ### Encoding -/

/-- `CMD = OPC·2^24 + STG·2^16 + SEL·2^8` (R70): the concatenation of the four fields, RSV zero. -/
def commandWord (opc stg sel : BitVec 8) : Word := opc ++ stg ++ sel ++ 0#8

/-- A command transaction whose DATA word the opcode uses. -/
def encodeCommand (opc stg sel : BitVec 8) (data : Word) : Transaction := .command (commandWord opc stg sel) data

/-- The encoder (R70, R74, R80): unused fields and ignored words are zero. -/
def encode : Instr → Transaction
  | .nop => encodeCommand 0x00 0 0 0
  | .lda d => encodeCommand 0x01 0 0 d
  | .qmul d => encodeCommand 0x02 0 0 d
  | .mac d => encodeCommand 0x03 0 0 d
  | .msu d => encodeCommand 0x04 0 0 d
  | .aclr => encodeCommand 0x05 0 0 0
  | .ard => encodeCommand 0x06 0 0 0
  | .ald d => encodeCommand 0x07 0 0 d
  | .cvtiq d => encodeCommand 0x08 0 0 d
  | .cvtqi d => encodeCommand 0x09 0 0 d
  | .wkind s d => encodeCommand 0x10 s 0 d
  | .wcoef s k d => encodeCommand 0x11 s k d
  | .wnst d => encodeCommand 0x12 0 0 d
  | .rscoef s k => encodeCommand 0x13 s k 0
  | .rskind s => encodeCommand 0x14 s 0 0
  | .rnst k => encodeCommand 0x15 0 k 0
  | .racoef s k => encodeCommand 0x16 s k 0
  | .rakind s => encodeCommand 0x17 s 0 0
  | .rstate s k => encodeCommand 0x18 s k 0
  | .commit => encodeCommand 0x20 0 0 0
  | .rstst s => encodeCommand 0x21 s 0 0
  | .rstall => encodeCommand 0x22 0 0 0
  | .rstat => encodeCommand 0x23 0 0 0
  | .rid => encodeCommand 0x24 0 0 0
  | .clrst => encodeCommand 0x25 0 0 0
  | .idle => .sample 0b00 0 0
  | .sample l r => .sample 0b01 l r
  | .boundary => .sample 0b10 0 0
  | .sample16 l r => .sample 0b11 l r

/-! ### The opcode table's words -/

/-- The transaction whose bits are `w`, numbered as spec/opcode_table.json numbers them: a row of at most one byte is a
sample-port code in the low two bits, with input words of zeros; any other is a command word with the data word in the
bits above it (log 10). -/
def tableTransaction (nbits w : Nat) : Transaction :=
  if nbits ≤ 8 then .sample (BitVec.ofNat 2 w) 0 0 else .command (BitVec.ofNat 32 w) (BitVec.ofNat 32 (w / 2 ^ 32))

/-- The instruction the decoder reads from a row's word, none where it refuses. -/
def decodeTableWord (nbits w : Nat) : Option Instr := (decode (tableTransaction nbits w)).toOption

/-! ### Byte order of a byte-serial transport (R53) -/

/-- The bytes of a word in the order a byte-serial transport sends them: least significant byte first. -/
def bytesOfWord (w : Word) : List Byte :=
  [w.extractLsb' 0 8, w.extractLsb' 8 8, w.extractLsb' 16 8, w.extractLsb' 24 8]

/-- The word that four bytes of a byte-serial transport carry; none for another number of bytes. -/
def wordOfBytes : List Byte → Option Word
  | [b0, b1, b2, b3] => some (b3 ++ b2 ++ b1 ++ b0)
  | _ => none

end Sys2Proof
end

