-- ==== Sys2Proof/Machine/State.lean ====
section
/-! DEFINITION. The state of QBQ as plain data: the tuple of 10_state.md R20, and two fields of the model that stand for
the two ports (what the agents present, and what the last transaction drove). Reset values are those of R39. -/

namespace Sys2Proof.Machine

/-- A stage slot, 0..MAX_STAGES-1 (R12, R25). -/
abbrev StageIdx := Fin Config.maxStages

/-- A 4-bit filter-kind register: 0 to 9 are kinds, 15 is NONE (R26, R76). -/
abbrev Kind := BitVec 4

/-- NONE, the reset value of every kind register, which no command can write (R26, R76). -/
def kindNone : Kind := 0xF

/-- The two channels (R6 NCH, R31): left is 0, right is 1. -/
inductive Channel where
  | left
  | right
deriving DecidableEq, Repr

/-- The six coefficient words of a stage, in the index order 0 b0 to 5 a2 (R25). -/
structure Coeffs where
  b0 : Word
  b1 : Word
  b2 : Word
  a0 : Word
  a1 : Word
  a2 : Word
deriving DecidableEq, Repr

/-- The four state words of a stage for one channel, in the index order 0 x1 to 3 y2 (R31). -/
structure BqState where
  x1 : Word
  x2 : Word
  y1 : Word
  y2 : Word
deriving DecidableEq, Repr

/-- A stage's state words for both channels (R31, R175). -/
structure StageState where
  left : BqState
  right : BqState
deriving DecidableEq, Repr

/-- What a transaction drives on its port (R50, R52). -/
inductive Reply where
  /-- Nothing: RESET produces no port output (R300). -/
  | silent
  /-- RESULT of a command transaction. -/
  | result (word : Word)
  /-- OUT_L and OUT_R of a sample transaction. -/
  | outputs (outL outR : Word)
deriving DecidableEq, Repr

/-- What the agents around QBQ can do to it (R50, R321). -/
inductive Event where
  /-- A host or audio-source transaction. -/
  | transaction (t : Transaction)
  /-- The platform's RESET (R300). -/
  | reset
deriving DecidableEq, Repr

/-- The state of QBQ. The first fifteen fields are the tuple of R20; `pending` and `reply` are the model's own (log 1, log 3). -/
structure State where
  /-- OPA, the first multiplier operand (R23). -/
  opa : Word
  /-- ACC, the host's accumulator (R24). -/
  acc : BitVec Config.accBits
  /-- SH_COEF, the shadow coefficient memory (R25). -/
  shCoef : Vector Coeffs Config.maxStages
  /-- SH_KIND, the shadow kinds (R26). -/
  shKind : Vector Kind Config.maxStages
  /-- SH_NST, the shadow chain length (R27). -/
  shNst : BitVec 8
  /-- AC_COEF, the active coefficient memory (R28). -/
  acCoef : Vector Coeffs Config.maxStages
  /-- AC_KIND, the last applied kinds (R29). -/
  acKind : Vector Kind Config.maxStages
  /-- AC_NST, the active chain length `filter_stages` (R30). -/
  acNst : BitVec 8
  /-- ST, the biquad state memory (R31). -/
  st : Vector StageState Config.maxStages
  /-- COMMIT_PENDING (R32). -/
  commitPending : Bool
  /-- RST_PEND, a requested state reset of each stage (R33). -/
  rstPend : Vector Bool Config.maxStages
  /-- ERR, the sticky refusal flag (R34). -/
  err : Bool
  /-- ERRCODE, the first refusal's code (R34). -/
  errCode : BitVec 8
  /-- SAT, the sticky saturation flag of the command port (R35). -/
  sat : Bool
  /-- DSAT, the sticky saturation flag of the sample path (R36). -/
  dsat : Bool
  /-- The events still to come, in the total order of R55 and R59; the head is next. The model's own (log 1). -/
  pending : List Event
  /-- What the last transaction drove on its port. The model's own (log 3). -/
  reply : Reply
deriving DecidableEq, Repr

/-- QBQ raises no fault: it has no trap and every transaction completes (R277, R270). The type has no constructor, so no
step can stop with a fault; that is safe, since the spec names no event that stops the block. -/
inductive Fault where
deriving DecidableEq, Repr

/-- Why the model would give no meaning. -/
inductive Refusal where
  /-- Raised only by `exec` for an instruction that has no meaning yet; no arm raises it now. Safe: the model stops. -/
  | notModelled (mnemonic : String)
deriving DecidableEq, Repr

/-- The coefficients of a stage after reset (R39). -/
def zeroCoeffs : Coeffs := ⟨0, 0, 0, 0, 0, 0⟩

/-- The state words of one lane, all zero (R39, R216, and S0 of R215). -/
def zeroBq : BqState := ⟨0, 0, 0, 0⟩

/-- The state words of a stage, all zero (R39, R216). -/
def zeroStage : StageState := ⟨zeroBq, zeroBq⟩

/-- The machine right after RESET (R39, R300), with no event presented yet and nothing driven on a port (log 4). -/
def State.reset : State where
  opa := 0
  acc := 0
  shCoef := Vector.replicate Config.maxStages zeroCoeffs
  shKind := Vector.replicate Config.maxStages kindNone
  shNst := 0
  acCoef := Vector.replicate Config.maxStages zeroCoeffs
  acKind := Vector.replicate Config.maxStages kindNone
  acNst := 0
  st := Vector.replicate Config.maxStages zeroStage
  commitPending := false
  rstPend := Vector.replicate Config.maxStages false
  err := false
  errCode := 0
  sat := false
  dsat := false
  pending := []
  reply := .silent

end Sys2Proof.Machine
end

