-- ==== Sys2Proof/Machine/Ops.lean ====
section
/-! DEFINITION. The named operations over the state: one update per register, access to the indexed arrays (20_memory.md
R51, R54, R57), the replies of the two ports (R52), command refusal as ONE shared operation (60_exceptions.md R270), the
RESET event (70_reset_and_hazards.md R300), and taking the next event (R55). QBQ has no trap, so the refusal is its only
exception, and there is no return from it: it is complete when its transaction ends (R277). -/

namespace Sys2Proof.Machine

/-! ### One update per register -/

def State.setOpa (s : State) (v : Word) : State := { s with opa := v }
def State.setAcc (s : State) (v : BitVec Config.accBits) : State := { s with acc := v }
def State.setShCoef (s : State) (v : Vector Coeffs Config.maxStages) : State := { s with shCoef := v }
def State.setShKind (s : State) (v : Vector Kind Config.maxStages) : State := { s with shKind := v }
def State.setShNst (s : State) (v : BitVec 8) : State := { s with shNst := v }
def State.setAcCoef (s : State) (v : Vector Coeffs Config.maxStages) : State := { s with acCoef := v }
def State.setAcKind (s : State) (v : Vector Kind Config.maxStages) : State := { s with acKind := v }
def State.setAcNst (s : State) (v : BitVec 8) : State := { s with acNst := v }
def State.setSt (s : State) (v : Vector StageState Config.maxStages) : State := { s with st := v }
def State.setCommitPending (s : State) (v : Bool) : State := { s with commitPending := v }
def State.setRstPend (s : State) (v : Vector Bool Config.maxStages) : State := { s with rstPend := v }
def State.setErr (s : State) (v : Bool) : State := { s with err := v }
def State.setErrCode (s : State) (v : BitVec 8) : State := { s with errCode := v }
def State.setSat (s : State) (v : Bool) : State := { s with sat := v }
def State.setDsat (s : State) (v : Bool) : State := { s with dsat := v }
def State.setPending (s : State) (v : List Event) : State := { s with pending := v }
def State.setReply (s : State) (v : Reply) : State := { s with reply := v }

/-! ### Indexed access (R25, R31, R57) -/

/-- Coefficient `k` of a stage: 0 b0, 1 b1, 2 b2, 3 a0, 4 a1, 5 a2. -/
def Coeffs.get (c : Coeffs) (k : Fin 6) : Word :=
  match k with
  | 0 => c.b0
  | 1 => c.b1
  | 2 => c.b2
  | 3 => c.a0
  | 4 => c.a1
  | 5 => c.a2

/-- A stage's coefficients with word `k` replaced. -/
def Coeffs.put (c : Coeffs) (k : Fin 6) (v : Word) : Coeffs :=
  match k with
  | 0 => { c with b0 := v }
  | 1 => { c with b1 := v }
  | 2 => { c with b2 := v }
  | 3 => { c with a0 := v }
  | 4 => { c with a1 := v }
  | 5 => { c with a2 := v }

/-- State word `k` of one lane: 0 x1, 1 x2, 2 y1, 3 y2. -/
def BqState.get (b : BqState) (k : Fin 4) : Word :=
  match k with
  | 0 => b.x1
  | 1 => b.x2
  | 2 => b.y1
  | 3 => b.y2

/-- The lane of a channel. -/
def StageState.lane (t : StageState) (c : Channel) : BqState :=
  match c with
  | .left => t.left
  | .right => t.right

/-- A stage's state with one channel's lane replaced. -/
def StageState.putLane (t : StageState) (c : Channel) (b : BqState) : StageState :=
  match c with
  | .left => { t with left := b }
  | .right => { t with right := b }

/-- The stages 0..n-1 in index order. A length above MAX_STAGES, which no run reaches, names every slot (log 7). -/
def stagesBelow (n : BitVec 8) : List StageIdx := (List.finRange Config.maxStages).filter fun i => i.val < n.toNat

/-! ### Replies (R52) -/

/-- RESULT of the current command transaction. -/
def State.withResult (s : State) (w : Word) : State := s.setReply (.result w)

/-- OUT_L and OUT_R of the current sample transaction. -/
def State.withOutputs (s : State) (l r : Word) : State := s.setReply (.outputs l r)

/-! ### Command refusal (R270, R273) -/

/-- `raise CmdError(code)`: if ERR was 0 then ERRCODE takes the code; ERR becomes 1; RESULT is 0; nothing else changes. -/
def refuse (e : CmdError) (s : State) : State :=
  (((if s.err then s else s.setErrCode e.code).setErr true)).withResult 0

/-- One command transaction: the state and RESULT its rule gives, or the refusal it raised, which discards all else (R270, R275). -/
def runCommand (s : State) (body : Except CmdError (State × Word)) : Host.Outcome State Fault Refusal :=
  match body with
  | .error e => .next (refuse e s)
  | .ok (t, w) => .next (t.withResult w)

/-- The BUSY check of every shadow write (R203). -/
def checkFree (s : State) : Except CmdError Unit := if s.commitPending then .error .busy else .ok ()

/-- COMMIT's check: every stage below SH_NST has a kind (R210). -/
def checkComplete (s : State) : Except CmdError Unit :=
  if (stagesBelow s.shNst).all fun i => s.shKind[i] != kindNone then .ok () else .error .incomplete

/-! ### Events -/

/-- The RESET event (R300): every piece of state takes its reset value, a pending commit or state reset is discarded, and
no port is driven. The events still to come are the agents' and stay (log 11). -/
def resetEvent (s : State) : State := State.reset.setPending s.pending

/-- The next event in the order of R55, and the state without it. -/
def takeEvent (s : State) : Option (Event × State) :=
  match s.pending with
  | [] => none
  | e :: rest => some (e, s.setPending rest)

end Sys2Proof.Machine
end

