-- ==== Sys2Proof/Machine/Operands.lean ====
section
/-! DEFINITION. Every operand form of the command set (30_encoding.md R71, R72, 20_memory.md R57): the stage index, the
three selectors, the kind code, the count and the 16-bit sample. A form that can be out of range answers the refusal the
spec names for it (60_exceptions.md R271). A FixedValue or 32-bit integer operand is the DATA word itself. -/

namespace Sys2Proof.Machine

/-! ### The filter-kind codes (R76) -/

def kindLowpass : Kind := 0
def kindHighpass : Kind := 1
def kindBandpassSkirt : Kind := 2
def kindBandpassPeak : Kind := 3
def kindNotch : Kind := 4
def kindAllpass : Kind := 5
def kindPeaking : Kind := 6
def kindLowshelf : Kind := 7
def kindHighshelf : Kind := 8
def kindCustomIir : Kind := 9

/-! ### Command-word operands -/

/-- STG as a stage slot, or BAD_STAGE (R71). -/
def stageOperand (stg : BitVec 8) : Except CmdError StageIdx :=
  if h : stg.toNat < Config.maxStages then .ok ⟨stg.toNat, h⟩ else .error .badStage

/-- SEL as a coefficient index 0..5, or BAD_SELECT (R57, R71). -/
def coefOperand (sel : BitVec 8) : Except CmdError (Fin 6) :=
  if h : sel.toNat < 6 then .ok ⟨sel.toNat, h⟩ else .error .badSelect

/-- SEL as a state selector `4·c + k`, or BAD_SELECT (R57, R209). -/
def stateOperand (sel : BitVec 8) : Except CmdError (Channel × Fin 4) :=
  if sel.toNat < 8 then
    .ok (if sel.toNat / 4 = 0 then .left else .right, ⟨sel.toNat % 4, Nat.mod_lt _ (by decide)⟩)
  else .error .badSelect

/-- SEL as a chain-length selector: false for SH_NST (0), true for AC_NST (1), or BAD_SELECT (R57, R206). -/
def bankOperand (sel : BitVec 8) : Except CmdError Bool :=
  if sel.toNat = 0 then .ok false else if sel.toNat = 1 then .ok true else .error .badSelect

/-! ### Data operands -/

/-- DATA as a kind code 0..9, or BAD_KIND (R76, R200). -/
def kindOperand (data : Word) : Except CmdError Kind :=
  if data.toNat > 9 then .error .badKind else .ok (data.extractLsb' 0 4)

/-- DATA as a chain length 0..MAX_STAGES, or BAD_NSTAGES (R202). -/
def countOperand (data : Word) : Except CmdError (BitVec 8) :=
  if data.toNat > Config.maxStages then .error .badNstages else .ok (data.extractLsb' 0 8)

/-- `[15:0]` of a port word, a 16-bit sample; the upper half is ignored (R54, R71, R117, R181). -/
def sampleOperand (data : Word) : BitVec 16 := data.extractLsb' 0 16

end Sys2Proof.Machine
end

