-- ==== Sys2Proof/Machine/Coef.lean ====
section
/-! DEFINITION. The commands that write the shadow bank and read the coefficient, kind, length and state memories
(43_chain.md R200 to R209). The checks stand in the order of 60_exceptions.md R272: stage, selector, BUSY, data. -/

namespace Sys2Proof.Machine

/-- WKIND (R200, R203). -/
def execWkind (stg : BitVec 8) (data : Word) (s : State) : Host.Outcome State Fault Refusal :=
  runCommand s do
    let i ← stageOperand stg
    checkFree s
    let k ← kindOperand data
    return (s.setShKind (s.shKind.set i k), 0)

/-- WCOEF (R201, R203); every DATA is accepted. -/
def execWcoef (stg sel : BitVec 8) (data : Word) (s : State) : Host.Outcome State Fault Refusal :=
  runCommand s do
    let i ← stageOperand stg
    let k ← coefOperand sel
    checkFree s
    return (s.setShCoef (s.shCoef.set i (s.shCoef[i].put k data)), 0)

/-- WNST (R202, R203). -/
def execWnst (data : Word) (s : State) : Host.Outcome State Fault Refusal :=
  runCommand s do
    checkFree s
    let n ← countOperand data
    return (s.setShNst n, 0)

/-- RSCOEF (R204): `RESULT <- SH_COEF[s][k]`. -/
def execRscoef (stg sel : BitVec 8) (s : State) : Host.Outcome State Fault Refusal :=
  runCommand s do
    let i ← stageOperand stg
    let k ← coefOperand sel
    return (s, s.shCoef[i].get k)

/-- RSKIND (R205): `RESULT <- zext_32(SH_KIND[s])`. -/
def execRskind (stg : BitVec 8) (s : State) : Host.Outcome State Fault Refusal :=
  runCommand s do
    let i ← stageOperand stg
    return (s, s.shKind[i].zeroExtend 32)

/-- RNST (R206): the shadow or the active chain length. -/
def execRnst (sel : BitVec 8) (s : State) : Host.Outcome State Fault Refusal :=
  runCommand s do
    let active ← bankOperand sel
    return (s, (if active then s.acNst else s.shNst).zeroExtend 32)

/-- RACOEF (R207): `RESULT <- AC_COEF[s][k]`. -/
def execRacoef (stg sel : BitVec 8) (s : State) : Host.Outcome State Fault Refusal :=
  runCommand s do
    let i ← stageOperand stg
    let k ← coefOperand sel
    return (s, s.acCoef[i].get k)

/-- RAKIND (R208): `RESULT <- zext_32(AC_KIND[s])`. -/
def execRakind (stg : BitVec 8) (s : State) : Host.Outcome State Fault Refusal :=
  runCommand s do
    let i ← stageOperand stg
    return (s, s.acKind[i].zeroExtend 32)

/-- RSTATE (R209): `RESULT <- ST[s][sel div 4][sel mod 4]`. -/
def execRstate (stg sel : BitVec 8) (s : State) : Host.Outcome State Fault Refusal :=
  runCommand s do
    let i ← stageOperand stg
    let ck ← stateOperand sel
    return (s, (s.st[i].lane ck.1).get ck.2)

end Sys2Proof.Machine
end

