-- ==== Sys2Proof/Machine/Flags.lean ====
section
/-! DEFINITION. The sticky flags and the words a host reads them through: SAT and DSAT (10_state.md R35, R36),
RESET_PENDING, the status word (44_control.md R251), the identity word (R252) and what CLRST clears (R253). -/

namespace Sys2Proof.Machine

/-- `SAT <- SAT | s`: set, never cleared, by a command-port operation (R35). -/
def State.orSat (s : State) (b : Bool) : State := s.setSat (s.sat || b)

/-- `DSAT <- DSAT | d`: set, never cleared, by the sample path and by a replay (R36). -/
def State.orDsat (s : State) (b : Bool) : State := s.setDsat (s.dsat || b)

/-- RESET_PENDING, the OR of RST_PEND[0..MAX_STAGES-1] (R33, R251). -/
def resetPending (s : State) : Bool := decide (∃ i : StageIdx, s.rstPend[i] = true)

/-- The status word `SH_NST : AC_NST : ERRCODE : 0b000 : DSAT : SAT : ERR : RESET_PENDING : COMMIT_PENDING` (R251). -/
def statusWord (s : State) : Word :=
  s.shNst ++ s.acNst ++ s.errCode ++ 0#3 ++ BitVec.ofBool s.dsat ++ BitVec.ofBool s.sat ++ BitVec.ofBool s.err ++
    BitVec.ofBool (resetPending s) ++ BitVec.ofBool s.commitPending

/-- The identity word `0x42 : F : MAX_STAGES : 0x01` (R37, R252). -/
def identWord : Word := 0x42#8 ++ BitVec.ofNat 8 Config.fracBits ++ BitVec.ofNat 8 Config.maxStages ++ 0x01#8

/-- What CLRST clears: ERR, ERRCODE, SAT and DSAT (R253). -/
def clearSticky (s : State) : State := (((s.setErr false).setErrCode 0).setSat false).setDsat false

end Sys2Proof.Machine
end

