-- ==== Sys2Proof/Machine/Control.lean ====
section
/-! DEFINITION. The control and status commands (44_control.md R250 to R253). -/

namespace Sys2Proof.Machine

/-- NOP (R250): `RESULT <- 0`. -/
def execNop (s : State) : Host.Outcome State Fault Refusal :=
  runCommand s (.ok (s, 0))

/-- RSTAT (R251): RESULT is the status word; the read clears nothing. -/
def execRstat (s : State) : Host.Outcome State Fault Refusal :=
  runCommand s (.ok (s, statusWord s))

/-- RID (R252): RESULT is the identity word. -/
def execRid (s : State) : Host.Outcome State Fault Refusal :=
  runCommand s (.ok (s, identWord))

/-- CLRST (R253): ERR, ERRCODE, SAT and DSAT are cleared; the pending bits are not. -/
def execClrst (s : State) : Host.Outcome State Fault Refusal :=
  runCommand s (.ok (clearSticky s, 0))

end Sys2Proof.Machine
end

