-- ==== Sys2Proof/Machine/Mac.lean ====
section
/-! DEFINITION. The multiplier, accumulator and conversion commands (40_mac.md R110 to R118). They read and write only
OPA, ACC and SAT (R119). Every DATA value is legal, so none of them refuses. -/

namespace Sys2Proof.Machine

/-- LDA (R110): `OPA <- DATA; RESULT <- 0`. -/
def execLda (data : Word) (s : State) : Host.Outcome State Fault Refusal :=
  runCommand s (.ok (s.setOpa data, 0))

/-- QMUL (R111): `(w, s) = QMul(OPA, DATA); RESULT <- w; SAT <- SAT | s`. -/
def execQmul (data : Word) (s : State) : Host.Outcome State Fault Refusal :=
  let p := qMul hwParams s.opa data
  runCommand s (.ok (s.orSat p.sat, p.word))

/-- MAC (R112): the saturated product is added to ACC, which saturates. -/
def execMac (data : Word) (s : State) : Host.Outcome State Fault Refusal :=
  let p := qMul hwParams s.opa data
  let a := accAdd s.acc p.word.toInt
  runCommand s (.ok ((s.setAcc a.word).orSat (p.sat || a.sat), 0))

/-- MSU (R113): the saturated product is subtracted from ACC, which saturates. -/
def execMsu (data : Word) (s : State) : Host.Outcome State Fault Refusal :=
  let p := qMul hwParams s.opa data
  let a := accAdd s.acc (-p.word.toInt)
  runCommand s (.ok ((s.setAcc a.word).orSat (p.sat || a.sat), 0))

/-- ACLR (R114): `ACC <- 0; RESULT <- 0`; SAT is not cleared. -/
def execAclr (s : State) : Host.Outcome State Fault Refusal :=
  runCommand s (.ok (s.setAcc 0, 0))

/-- ARD (R115): `(w, s) = AccRead(ACC); RESULT <- w; SAT <- SAT | s`. -/
def execArd (s : State) : Host.Outcome State Fault Refusal :=
  let r := accRead s.acc
  runCommand s (.ok (s.orSat r.sat, r.word))

/-- ALD (R116): `ACC <- sext_40(DATA); RESULT <- 0`. -/
def execAld (data : Word) (s : State) : Host.Outcome State Fault Refusal :=
  runCommand s (.ok (s.setAcc (accOfWord data), 0))

/-- CVTIQ (R117): `RESULT <- FromI16(DATA[15:0])`. -/
def execCvtiq (data : Word) (s : State) : Host.Outcome State Fault Refusal :=
  runCommand s (.ok (s, fromI16 (sampleOperand data)))

/-- CVTQI (R118): `(h, s) = ToI16(DATA); RESULT <- sext_32(h); SAT <- SAT | s`. -/
def execCvtqi (data : Word) (s : State) : Host.Outcome State Fault Refusal :=
  let h := toI16 data
  runCommand s (.ok (s.orSat h.sat, sextSample h.word))

end Sys2Proof.Machine
end

