-- ==== Sys2Proof/Machine/Pipeline.lean ====
section
/-! DEFINITION. The biquad pipeline's shared operations: the stage step (42_biquad.md R170), the chain run (R176), the
replay, reconfiguration and commit (43_chain.md R213 to R215), and the state resets (R216). -/

namespace Sys2Proof.Machine

/-! ### The stage step -/

/-- What `BqStep` returns: the output, the next state of the lane, and the saturation bit. -/
structure BqOut where
  y : Word
  lane : BqState
  sat : Bool
deriving DecidableEq, Repr

/-- `BqStep(C, S, x)` (R170, R173): five saturating products, their exact sum put back once, and the state shift. a0 is
not read (R172). -/
def bqStep (P : Config.Params) (C : Coeffs) (S : BqState) (x : Word) : BqOut :=
  let p0 := qMul P C.b0 x
  let p1 := qMul P C.a1 S.y1
  let p2 := qMul P C.b1 S.x1
  let p3 := qMul P C.a2 S.y2
  let p4 := qMul P C.b2 S.x2
  let n := p0.word.toInt - p1.word.toInt + p2.word.toInt - p3.word.toInt + p4.word.toInt
  let y := bqSum P.sumMode n
  { y := y.word
    lane := { x1 := x, x2 := S.x1, y1 := y.word, y2 := S.y1 }
    sat := p0.sat || p1.sat || p2.sat || p3.sat || p4.sat || y.sat }

/-! ### The chain run -/

/-- What a chain run returns: the chain output, the state memory it leaves, and the saturation bit. -/
structure ChainOut where
  out : Word
  st : Vector StageState Config.maxStages
  sat : Bool
deriving DecidableEq, Repr

/-- A run of one channel's sample through the listed stages, each stage's output the next one's input (R176). -/
def chainFold (P : Config.Params) (coef : Vector Coeffs Config.maxStages) (c : Channel) :
    List StageIdx → Word → Vector StageState Config.maxStages → ChainOut
  | [], v, st => { out := v, st := st, sat := false }
  | i :: rest, v, st =>
    let r := bqStep P coef[i] (st[i].lane c) v
    let q := chainFold P coef c rest r.y (st.set i (st[i].putLane c r.lane))
    { out := q.out, st := q.st, sat := r.sat || q.sat }

/-- `ChainRun(c, x)` (R176): the active stages in index order, from the active bank alone. -/
def chainRun (P : Config.Params) (c : Channel) (x : Word) (s : State) : ChainOut :=
  chainFold P s.acCoef c (stagesBelow s.acNst) x s.st

/-- What a stereo sample leaves: the state, and the chain outputs of the two channels. -/
structure StereoOut where
  state : State
  outL : Word
  outR : Word
deriving DecidableEq, Repr

/-- Both channels of one sample through the chain, from one coefficient snapshot (R180, R179). -/
def stereoRun (P : Config.Params) (l r : Word) (s : State) : StereoOut :=
  let a := chainRun P .left l s
  let b := chainRun P .right r (s.setSt a.st)
  { state := (s.setSt b.st).orDsat (a.sat || b.sat), outL := a.out, outR := b.out }

/-! ### Hot-swap -/

/-- `Replay(s, c)` (R215): the lane's two most recent inputs, oldest first, through the new coefficients from zeroed state. -/
def replay (P : Config.Params) (i : StageIdx) (c : Channel) (s : State) : State :=
  let old := s.st[i].lane c
  let r1 := bqStep P s.acCoef[i] zeroBq old.x2
  let r2 := bqStep P s.acCoef[i] r1.lane old.x1
  (s.setSt (s.st.set i (s.st[i].putLane c r2.lane))).orDsat (r1.sat || r2.sat)

/-- Whether a commit replays stage `i`: its kind changed, or it is CUSTOMIIR and one of its six words changed (R214). -/
def needsReplay (s : State) (i : StageIdx) : Bool :=
  decide (s.shKind[i] ≠ s.acKind[i]) ||
    (decide (s.shKind[i] = kindCustomIir) && decide (s.shCoef[i] ≠ s.acCoef[i]))

/-- `Reconfigure(s)` (R214): the new coefficients and kind take effect, and the state is replayed where it is due. -/
def reconfigure (P : Config.Params) (s : State) (i : StageIdx) : State :=
  let t := (s.setAcCoef (s.acCoef.set i s.shCoef[i])).setAcKind (s.acKind.set i s.shKind[i])
  if needsReplay s i then replay P i .right (replay P i .left t) else t

/-- `Apply` (R213): every stage below SH_NST is reconfigured in index order, then AC_NST takes SH_NST. -/
def applyCommit (P : Config.Params) (s : State) : State :=
  ((stagesBelow s.shNst).foldl (reconfigure P) s).setAcNst s.shNst

/-- `ApplyResets` (R216): every stage with a requested reset is zeroed on both channels and its request cleared. -/
def applyResets (s : State) : State :=
  (s.setSt (Vector.ofFn fun i : StageIdx => if s.rstPend[i] then zeroStage else s.st[i])).setRstPend
    (Vector.replicate Config.maxStages false)

/-- What BOUNDARY applies (R220): a pending commit first, then the requested state resets. -/
def applyBoundary (P : Config.Params) (s : State) : State :=
  applyResets (if s.commitPending then (applyCommit P s).setCommitPending false else s)

end Sys2Proof.Machine
end

