-- ==== Sys2Proof/Machine/Sample.lean ====
section
/-! DEFINITION. The sample-port operations IDLE, SAMPLE and SAMPLE16 (42_biquad.md R180 to R182). No sample-port
operation can be refused. -/

namespace Sys2Proof.Machine

/-- IDLE (R182): both outputs are 0; nothing pending is applied. -/
def execIdle (s : State) : Host.Outcome State Fault Refusal :=
  .next (s.withOutputs 0 0)

/-- SAMPLE (R180): one FixedValue sample per channel through the active chain. -/
def execSample (inL inR : Word) (s : State) : Host.Outcome State Fault Refusal :=
  let q := stereoRun hwParams inL inR s
  .next (q.state.withOutputs q.outL q.outR)

/-- SAMPLE16 (R181): one 16-bit sample per channel, converted, run through the active chain and converted back. -/
def execSample16 (inL inR : Word) (s : State) : Host.Outcome State Fault Refusal :=
  let q := stereoRun hwParams (fromI16 (sampleOperand inL)) (fromI16 (sampleOperand inR)) s
  let hl := toI16 q.outL
  let hr := toI16 q.outR
  .next ((q.state.orDsat (hl.sat || hr.sat)).withOutputs (sextSample hl.word) (sextSample hr.word))

end Sys2Proof.Machine
end

