-- ==== Sys2Proof/Machine/Swap.lean ====
section
/-! DEFINITION. The requests a host makes for the next block boundary, COMMIT, RSTST and RSTALL (43_chain.md R210 to
R212), and the BOUNDARY sample-port transaction that applies them (R220). -/

namespace Sys2Proof.Machine

/-- COMMIT (R210): refused with INCOMPLETE, else COMMIT_PENDING becomes 1. -/
def execCommit (s : State) : Host.Outcome State Fault Refusal :=
  runCommand s do
    checkComplete s
    return (s.setCommitPending true, 0)

/-- RSTST (R211): `RST_PEND[s] <- 1`; not refused while a commit is pending. -/
def execRstst (stg : BitVec 8) (s : State) : Host.Outcome State Fault Refusal :=
  runCommand s do
    let i ← stageOperand stg
    return (s.setRstPend (s.rstPend.set i true), 0)

/-- RSTALL (R212): every RST_PEND bit becomes 1. -/
def execRstall (s : State) : Host.Outcome State Fault Refusal :=
  runCommand s (.ok (s.setRstPend (Vector.replicate Config.maxStages true), 0))

/-- BOUNDARY (R220): the pending commit, then the requested resets; both outputs are 0. -/
def execBoundary (s : State) : Host.Outcome State Fault Refusal :=
  .next ((applyBoundary hwParams s).withOutputs 0 0)

end Sys2Proof.Machine
end

