-- ==== Sys2Proof/Machine/Dispatch.lean ====
section
/-! DEFINITION. exec: one arm for each row of spec/opcode_table.json, each a direct call of the instruction's meaning. -/

namespace Sys2Proof.Machine

/-- The effect of one decoded transaction. -/
def exec (i : Instr) (s : State) : Host.Outcome State Fault Refusal :=
  match i with
  | .nop => Sys2Proof.Machine.execNop s
  | .lda data => Sys2Proof.Machine.execLda data s
  | .qmul data => Sys2Proof.Machine.execQmul data s
  | .mac data => Sys2Proof.Machine.execMac data s
  | .msu data => Sys2Proof.Machine.execMsu data s
  | .aclr => Sys2Proof.Machine.execAclr s
  | .ard => Sys2Proof.Machine.execArd s
  | .ald data => Sys2Proof.Machine.execAld data s
  | .cvtiq data => Sys2Proof.Machine.execCvtiq data s
  | .cvtqi data => Sys2Proof.Machine.execCvtqi data s
  | .wkind stg data => Sys2Proof.Machine.execWkind stg data s
  | .wcoef stg sel data => Sys2Proof.Machine.execWcoef stg sel data s
  | .wnst data => Sys2Proof.Machine.execWnst data s
  | .rscoef stg sel => Sys2Proof.Machine.execRscoef stg sel s
  | .rskind stg => Sys2Proof.Machine.execRskind stg s
  | .rnst sel => Sys2Proof.Machine.execRnst sel s
  | .racoef stg sel => Sys2Proof.Machine.execRacoef stg sel s
  | .rakind stg => Sys2Proof.Machine.execRakind stg s
  | .rstate stg sel => Sys2Proof.Machine.execRstate stg sel s
  | .commit => Sys2Proof.Machine.execCommit s
  | .rstst stg => Sys2Proof.Machine.execRstst stg s
  | .rstall => Sys2Proof.Machine.execRstall s
  | .rstat => Sys2Proof.Machine.execRstat s
  | .rid => Sys2Proof.Machine.execRid s
  | .clrst => Sys2Proof.Machine.execClrst s
  | .idle => Sys2Proof.Machine.execIdle s
  | .sample inL inR => Sys2Proof.Machine.execSample inL inR s
  | .boundary => Sys2Proof.Machine.execBoundary s
  | .sample16 inL inR => Sys2Proof.Machine.execSample16 inL inR s

end Sys2Proof.Machine
end

