-- ==== Sys2Proof/Machine/Step.lean ====
section
/-! DEFINITION. One step: the next event in the total order of 20_memory.md R55 is taken and done whole. A transaction is
decoded and executed; a command word the decoder refuses is a refused command (60_exceptions.md R270); RESET resets. With
no event presented nothing happens and the state is unchanged (log 2). -/

namespace Sys2Proof.Machine

/-- One whole transaction on either port (R55). -/
def runTransaction (t : Transaction) (s : State) : Host.Outcome State Fault Refusal :=
  match decode t with
  | .ok i => exec i s
  | .error e => .next (refuse e s)

/-- One event: a transaction or RESET (R50). -/
def runEvent (e : Event) (s : State) : Host.Outcome State Fault Refusal :=
  match e with
  | .transaction t => runTransaction t s
  | .reset => .next (resetEvent s)

/-- One step of the machine (R55): the head of `pending`, if there is one. -/
def step (s : State) : Host.Outcome State Fault Refusal :=
  match takeEvent s with
  | none => .next s
  | some (e, t) => runEvent e t

/-- The state in which the transaction whose bits are `w` is the next event (log 1, log 10). -/
def State.withFetchWord (s : State) (nbits w : Nat) : State :=
  s.setPending (.transaction (tableTransaction nbits w) :: s.pending)

end Sys2Proof.Machine
end

