-- ==== Sys2Proof/Machine/HostSide.lean ====
section
/-! DEFINITION. What the spec defines of the host's side and no step computes: the real conversions of
41_host_derivation.md R150 and R151, the stage load of R146, the assembly text and pseudo-instructions of 30_encoding.md
R78 and R79, and the boot sequence of 70_reset_and_hazards.md R303. A 64-bit float is its IEEE 754 binary64 bit pattern
(log 12). The design equations of R142 and R143 are outside the declared scope (00_scope.md R5 b). -/

namespace Sys2Proof.Machine

/-! ### Real conversions -/

/-- The exponent field of a 64-bit float. -/
def doubleExponent (d : BitVec 64) : Nat := (d.extractLsb' 52 11).toNat

/-- The fraction field of a 64-bit float. -/
def doubleFraction (d : BitVec 64) : Nat := (d.extractLsb' 0 52).toNat

/-- The sign of a 64-bit float: true for negative. -/
def doubleSign (d : BitVec 64) : Bool := d.getLsbD 63

/-- The integer significand of a finite 64-bit float, with its sign. -/
def doubleSignificand (d : BitVec 64) : Int :=
  let m : Int := if doubleExponent d = 0 then doubleFraction d else doubleFraction d + 2 ^ 52
  if doubleSign d then -m else m

/-- `RHA(d · 2^28)` of a finite 64-bit float, whose value is its significand times `2^(max e 1 - 1075)` (R150). -/
def scaledDouble (d : BitVec 64) : Int :=
  let e := max (doubleExponent d) 1
  if 1047 ≤ e then doubleSignificand d * 2 ^ (e - 1047) else rhaDiv (doubleSignificand d) (1047 - e)

/-- `FromDouble(d)` (R150): nearest FixedValue, halves away from zero, saturated; the infinities saturate; none for a NaN,
which the host must not convert. -/
def fromDouble (d : BitVec 64) : Option Word :=
  if doubleExponent d = 2047 then
    if doubleFraction d = 0 then some (if doubleSign d then 0x80000000 else 0x7FFFFFFF) else none
  else some (satTo 32 (scaledDouble d)).word

/-- `ToDouble(v)` (R151): the 64-bit float whose value is `sint(v) · 2^-28`, exactly; zero is +0. -/
def toDouble (v : Word) : BitVec 64 :=
  let m := v.toInt.natAbs
  let p := Nat.log2 m
  if m = 0 then 0 else BitVec.ofBool v.msb ++ BitVec.ofNat 11 (p + 995) ++ BitVec.ofNat 52 ((m - 2 ^ p) * 2 ^ (52 - p))

/-- The FixedValue of a `q` literal whose real number is `num / den` with positive `den` (R78): nearest, halves away from zero,
saturated. -/
def qLiteral (num : Int) (den : Nat) : Word :=
  (satTo 32 (num.sign * (((2 * num.natAbs * 2 ^ 28 + den) / (2 * den) : Nat) : Int))).word

/-! ### Pseudo-instructions (R79) -/

/-- `WSTAGE s, kind, b0, b1, b2, a0, a1, a2`: WKIND, then WCOEF in index order. -/
def wstage (s : BitVec 8) (kind : Word) (c : Coeffs) : List Instr :=
  [.wkind s kind, .wcoef s 0 c.b0, .wcoef s 1 c.b1, .wcoef s 2 c.b2, .wcoef s 3 c.a0, .wcoef s 4 c.a1, .wcoef s 5 c.a2]

/-- `QMULAB a, b`. -/
def qmulab (a b : Word) : List Instr := [.lda a, .qmul b]

/-- `MACAB a, b`. -/
def macab (a b : Word) : List Instr := [.lda a, .mac b]

/-- `MSUAB a, b`. -/
def msuab (a b : Word) : List Instr := [.lda a, .msu b]

/-- `CLEARERR`. -/
def clearerr : List Instr := [.clrst]

/-! ### Loading a configuration -/

/-- The six words of a stage from its normalized real coefficients (R144, R146): a0 is exactly 1.0; none if one is a NaN. -/
def normalizedCoeffs (b0 b1 b2 a1 a2 : BitVec 64) : Option Coeffs := do
  let b0 ← fromDouble b0
  let b1 ← fromDouble b1
  let b2 ← fromDouble b2
  let a1 ← fromDouble a1
  let a2 ← fromDouble a2
  return { b0 := b0, b1 := b1, b2 := b2, a0 := 0x10000000, a1 := a1, a2 := a2 }

/-- The shadow writes of a configuration, from stage `s` on (R303 step 3). -/
def loadStages : Nat → List (Word × Coeffs) → List Instr
  | _, [] => []
  | s, (kind, c) :: rest => wstage (BitVec.ofNat 8 s) kind c ++ loadStages (s + 1) rest

/-- The boot sequence (R303): RESET, the stages, WNST, COMMIT, a status read, the audio source's BOUNDARY, a status read
(log 14). -/
def bootEvents (stages : List (Word × Coeffs)) : List Event :=
  let finish : List Instr := [.wnst (BitVec.ofNat 32 stages.length), .commit, .rstat, .boundary, .rstat]
  .reset :: (loadStages 0 stages ++ finish).map fun i => .transaction (encode i)

/-! ### Assembly text (R78; log 13) -/

/-- One hexadecimal digit. -/
def hexDigit (n : Nat) : String := (String.ofList [Nat.digitChar n]).toUpper

/-- A word as `0x` and eight digits. -/
def hexWord (w : Word) : String :=
  "0x" ++ String.join ((List.range 8).map fun k => hexDigit (w.toNat / 16 ^ (7 - k) % 16))

/-- A coefficient selector by name, or as a number where it has none. -/
def coefName (sel : BitVec 8) : String := (["b0", "b1", "b2", "a0", "a1", "a2"][sel.toNat]?).getD (toString sel.toNat)

/-- A state selector by name, or as a number where it has none. -/
def stateName (sel : BitVec 8) : String :=
  (["L.x1", "L.x2", "L.y1", "L.y2", "R.x1", "R.x2", "R.y1", "R.y2"][sel.toNat]?).getD (toString sel.toNat)

/-- A line of assembly: the mnemonic, then the operands in the order stage, selector, data, separated by commas. -/
def asmLine (mnemonic : String) (operands : List String) : String :=
  if operands.isEmpty then mnemonic else mnemonic ++ " " ++ ", ".intercalate operands

/-- The assembly text of an instruction. -/
def asm : Instr → String
  | .nop => asmLine "NOP" []
  | .lda d => asmLine "LDA" [hexWord d]
  | .qmul d => asmLine "QMUL" [hexWord d]
  | .mac d => asmLine "MAC" [hexWord d]
  | .msu d => asmLine "MSU" [hexWord d]
  | .aclr => asmLine "ACLR" []
  | .ard => asmLine "ARD" []
  | .ald d => asmLine "ALD" [hexWord d]
  | .cvtiq d => asmLine "CVTIQ" [hexWord d]
  | .cvtqi d => asmLine "CVTQI" [hexWord d]
  | .wkind s d => asmLine "WKIND" [toString s.toNat, hexWord d]
  | .wcoef s k d => asmLine "WCOEF" [toString s.toNat, coefName k, hexWord d]
  | .wnst d => asmLine "WNST" [hexWord d]
  | .rscoef s k => asmLine "RSCOEF" [toString s.toNat, coefName k]
  | .rskind s => asmLine "RSKIND" [toString s.toNat]
  | .rnst k => asmLine "RNST" [toString k.toNat]
  | .racoef s k => asmLine "RACOEF" [toString s.toNat, coefName k]
  | .rakind s => asmLine "RAKIND" [toString s.toNat]
  | .rstate s k => asmLine "RSTATE" [toString s.toNat, stateName k]
  | .commit => asmLine "COMMIT" []
  | .rstst s => asmLine "RSTST" [toString s.toNat]
  | .rstall => asmLine "RSTALL" []
  | .rstat => asmLine "RSTAT" []
  | .rid => asmLine "RID" []
  | .clrst => asmLine "CLRST" []
  | .idle => asmLine "IDLE" []
  | .sample l r => asmLine "SAMPLE" [hexWord l, hexWord r]
  | .boundary => asmLine "BOUNDARY" []
  | .sample16 l r => asmLine "SAMPLE16" [hexWord l, hexWord r]

end Sys2Proof.Machine
end

