-- ==== Sys2Proof/Machine/HostDesign.lean ====
section
/-! DEFINITION. The host's coefficient derivation (41_host_derivation.md R141 to R146), which no step computes and which
00_scope.md R5 (b) leaves out of the hardware: the preconditions, the intermediate values, the design equations,
the normalization by a0, and the words that are stored. The equations are over any field; the words are those of
exact rational arithmetic (log 9). -/

namespace Sys2Proof.Machine

/-- What the design equations read (R142): cos ω0, sin ω0, α, A, and the square root of A. -/
structure DesignInputs (K : Type) where
  cosW : K
  sinW : K
  alpha : K
  gain : K
  rootGain : K
deriving DecidableEq, Repr

/-- The six coefficients of a stage before they are converted to words (R143, R145). -/
structure RawCoeffs (K : Type) where
  b0 : K
  b1 : K
  b2 : K
  a0 : K
  a1 : K
  a2 : K
deriving DecidableEq, Repr

/-- What a caller must check before a derivation (R141): a positive Q and a frequency between 0 and half the sample rate. -/
def DesignAllowed (fs f0 q : ℝ) : Prop := 0 < q ∧ 0 < f0 ∧ f0 < fs / 2

/-- `d` holds the intermediate values of R142 for the sample rate, the frequency, the quality factor and the gain in dB. -/
def IsDesignInputs (fs f0 q gainDb : ℝ) (d : DesignInputs ℝ) : Prop :=
  d.cosW = Real.cos (2 * Real.pi * f0 / fs) ∧ d.sinW = Real.sin (2 * Real.pi * f0 / fs) ∧
  d.alpha = d.sinW / (2 * q) ∧ d.gain = (10 : ℝ) ^ (gainDb / 40) ∧ d.rootGain = Real.sqrt d.gain

/-- The raw design equations of the kinds 0 to 8 (R143); none for CUSTOMIIR and NONE, which have no design equation. -/
def rawDesign {K : Type} [Field K] (kind : Kind) (d : DesignInputs K) : Option (RawCoeffs K) :=
  let c := d.cosW
  let al := d.alpha
  let A := d.gain
  let r := 2 * d.rootGain * al
  if kind = kindLowpass then some ⟨(1 - c) / 2, 1 - c, (1 - c) / 2, 1 + al, -2 * c, 1 - al⟩
  else if kind = kindHighpass then some ⟨(1 + c) / 2, -(1 + c), (1 + c) / 2, 1 + al, -2 * c, 1 - al⟩
  else if kind = kindBandpassSkirt then some ⟨d.sinW / 2, 0, -(d.sinW / 2), 1 + al, -2 * c, 1 - al⟩
  else if kind = kindBandpassPeak then some ⟨al, 0, -al, 1 + al, -2 * c, 1 - al⟩
  else if kind = kindNotch then some ⟨1, -2 * c, 1, 1 + al, -2 * c, 1 - al⟩
  else if kind = kindAllpass then some ⟨1 - al, -2 * c, 1 + al, 1 + al, -2 * c, 1 - al⟩
  else if kind = kindPeaking then some ⟨1 + al * A, -2 * c, 1 - al * A, 1 + al / A, -2 * c, 1 - al / A⟩
  else if kind = kindLowshelf then
    some ⟨A * ((A + 1) - (A - 1) * c + r), 2 * A * ((A - 1) - (A + 1) * c), A * ((A + 1) - (A - 1) * c - r),
      (A + 1) + (A - 1) * c + r, -2 * ((A - 1) + (A + 1) * c), (A + 1) + (A - 1) * c - r⟩
  else if kind = kindHighshelf then
    some ⟨A * ((A + 1) + (A - 1) * c + r), -2 * A * ((A - 1) + (A + 1) * c), A * ((A + 1) + (A - 1) * c - r),
      (A + 1) - (A - 1) * c + r, 2 * ((A - 1) - (A + 1) * c), (A + 1) - (A - 1) * c - r⟩
  else none

/-- Normalization (R144): all six raw coefficients divided by a0. -/
def RawCoeffs.normalize {K : Type} [Field K] (r : RawCoeffs K) : RawCoeffs K :=
  ⟨r.b0 / r.a0, r.b1 / r.a0, r.b2 / r.a0, r.a0 / r.a0, r.a1 / r.a0, r.a2 / r.a0⟩

/-- CUSTOMIIR (R145): the host's six raw coefficients, normalized; none if a0 is 0, which the host rejects. -/
def customDesign {K : Type} [Field K] [DecidableEq K] (r : RawCoeffs K) : Option (RawCoeffs K) :=
  if r.a0 = 0 then none else some r.normalize

/-- The FixedValue of a rational number: nearest, halves away from zero, saturated (R144, R150). -/
def fixedOfRat (x : ℚ) : Word := qLiteral x.num x.den

/-- The six stored words of normalized coefficients, each at its storage index by name (R145, R25). -/
def RawCoeffs.words (r : RawCoeffs ℚ) : Coeffs :=
  { b0 := fixedOfRat r.b0
    b1 := fixedOfRat r.b1
    b2 := fixedOfRat r.b2
    a0 := fixedOfRat r.a0
    a1 := fixedOfRat r.a1
    a2 := fixedOfRat r.a2 }

/-- The words the host writes for a stage of kind 0 to 8 (R143, R144, R146). -/
def designWords (kind : Kind) (d : DesignInputs ℚ) : Option Coeffs :=
  (rawDesign kind d).map fun r => r.normalize.words

/-- The words the host writes for a CUSTOMIIR stage (R145, R146). -/
def customWords (r : RawCoeffs ℚ) : Option Coeffs := (customDesign r).map RawCoeffs.words

end Sys2Proof.Machine
end

