-- ==== Sys2Proof/Safety.lean ====
section
/-! DEFINITION. The terms claims about QBQ are stated in: ranges and rounding on integers, what a refused command leaves,
how a command word stands for an instruction, which events reach the active bank, and the invariant of the machine. They
are written beside the machine and not from its functions, so that a claim compares two texts. -/

namespace Sys2Proof.Machine

/-! ### Integers -/

/-- The nearest value to `n` in the range of an N-bit two's-complement word (00_scope.md R9, saturation). -/
def clampTo (width : Nat) (n : Int) : Int := max (-(2 ^ (width - 1))) (min n (2 ^ (width - 1) - 1))

/-- `r` is `n / 2^k` rounded to the nearest integer, a value exactly halfway going away from zero (00_scope.md R9). -/
def NearestAway (n : Int) (k : Nat) (r : Int) : Prop :=
  2 * |n - r * 2 ^ k| ≤ 2 ^ k ∧ (2 * |n - r * 2 ^ k| = 2 ^ k → |n| ≤ |r * 2 ^ k|)

/-! ### Commands -/

/-- The state after a refused command (60_exceptions.md R270): the state before it, but for ERR, ERRCODE and RESULT = 0. -/
def refusedWith (code : BitVec 8) (s : State) : State :=
  { s with err := true, errCode := if s.err then s.errCode else code, reply := .result 0 }

/-- Every command word with this opcode stands for the instruction `build STG SEL DATA` where the reserved field and the
unused fields are zero, and is refused with RSVD where they are not (30_encoding.md R74, R75). -/
def CommandEncoding (opc : BitVec 8) (usesStg usesSel : Bool) (build : BitVec 8 → BitVec 8 → Word → Instr) : Prop :=
  ∀ cmd data : Word, cmd.extractLsb' 24 8 = opc →
    decode (.command cmd data) =
      if cmd.extractLsb' 0 8 = 0 ∧ (usesStg = true ∨ cmd.extractLsb' 16 8 = 0) ∧ (usesSel = true ∨ cmd.extractLsb' 8 8 = 0)
      then .ok (build (cmd.extractLsb' 16 8) (cmd.extractLsb' 8 8) data) else .error .rsvd

/-- The opcode map of 30_encoding.md R74 as match and mask pairs: the opcode, the mask, and the top of the SEL range. -/
def r74Rows : List (BitVec 8 × Word × Nat) :=
  [ (0x00, 0xFFFFFFFF, 0), (0x01, 0xFFFFFFFF, 0), (0x02, 0xFFFFFFFF, 0), (0x03, 0xFFFFFFFF, 0), (0x04, 0xFFFFFFFF, 0),
    (0x05, 0xFFFFFFFF, 0), (0x06, 0xFFFFFFFF, 0), (0x07, 0xFFFFFFFF, 0), (0x08, 0xFFFFFFFF, 0), (0x09, 0xFFFFFFFF, 0),
    (0x10, 0xFF00FFFF, 0), (0x11, 0xFF0000FF, 5), (0x12, 0xFFFFFFFF, 0), (0x13, 0xFF0000FF, 5), (0x14, 0xFF00FFFF, 0),
    (0x15, 0xFFFF00FF, 1), (0x16, 0xFF0000FF, 5), (0x17, 0xFF00FFFF, 0), (0x18, 0xFF0000FF, 7), (0x20, 0xFFFFFFFF, 0),
    (0x21, 0xFF00FFFF, 0), (0x22, 0xFFFFFFFF, 0), (0x23, 0xFFFFFFFF, 0), (0x24, 0xFFFFFFFF, 0), (0x25, 0xFFFFFFFF, 0) ]

/-- The coefficient words of a stage in index order (10_state.md R25). -/
def Coeffs.words (c : Coeffs) : List Word := [c.b0, c.b1, c.b2, c.a0, c.a1, c.a2]

/-- The state words of a lane in index order (10_state.md R31). -/
def BqState.words (b : BqState) : List Word := [b.x1, b.x2, b.y1, b.y2]

/-! ### Events -/

/-- The state with a transaction presented before all else. -/
def State.offer (s : State) (t : Transaction) : State := { s with pending := .transaction t :: s.pending }

/-- The instruction an event executes, if it executes one. -/
def Event.instr? (e : Event) : Option Instr :=
  match e with
  | .transaction t => (decode t).toOption
  | .reset => none

/-- An event that is neither a BOUNDARY nor a RESET: it cannot change the active bank (43_chain.md R220, R300). -/
def Event.keepsActive (e : Event) : Prop := e ≠ .reset ∧ e.instr? ≠ some .boundary

/-- An event that is neither a CLRST nor a RESET: it cannot clear the error record (10_state.md R34). -/
def Event.keepsError (e : Event) : Prop := e ≠ .reset ∧ e.instr? ≠ some .clrst

/-! ### Hot-swap -/

/-- The two stage steps of a replay (43_chain.md R215): x2, then x1, from zeroed state. -/
def replaySteps (P : Config.Params) (C : Coeffs) (old : BqState) : BqOut × BqOut :=
  let first := bqStep P C zeroBq old.x2
  (first, bqStep P C first.lane old.x1)

/-- A commit replays stage `i` (43_chain.md R214): the kind changed, or it is CUSTOMIIR and one of the six words changed. -/
def ReplayDue (s : State) (i : StageIdx) : Prop :=
  s.shKind[i] ≠ s.acKind[i] ∨ (s.shKind[i] = 9 ∧ s.shCoef[i] ≠ s.acCoef[i])

/-! ### The invariant -/

/-- A kind register holds a kind code 0 to 9 or NONE (10_state.md R26, R29). -/
def KindLegal (k : Kind) : Prop := k.toNat ≤ 9 ∨ k = kindNone

/-- What holds at reset and after every step. The first six clauses are the legal values of 10_state.md; the last three
are what the commit handshake gives: a pending commit is complete, every active stage has had a kind applied, and a stage
that never had one has zero state (decision D40). -/
structure Inv (s : State) : Prop where
  /-- SH_NST lies in 0..MAX_STAGES (R27). -/
  shNst_le : s.shNst.toNat ≤ 20
  /-- AC_NST lies in 0..MAX_STAGES (R30). -/
  acNst_le : s.acNst.toNat ≤ 20
  /-- Every shadow kind is legal (R26). -/
  shKind_legal : ∀ i : StageIdx, KindLegal s.shKind[i]
  /-- Every last applied kind is legal (R29). -/
  acKind_legal : ∀ i : StageIdx, KindLegal s.acKind[i]
  /-- ERRCODE is one of the codes of R271. -/
  errCode_le : s.errCode.toNat ≤ 8
  /-- ERRCODE is NONE exactly while ERR is 0 (R34, R271). -/
  errCode_none_iff : s.errCode = 0 ↔ s.err = false
  /-- While a commit is pending every stage below SH_NST has a kind (R203, R210). -/
  pending_complete : s.commitPending = true → ∀ i : StageIdx, i.val < s.shNst.toNat → s.shKind[i] ≠ kindNone
  /-- Every active stage has had a kind applied (R213, R214). -/
  active_has_kind : ∀ i : StageIdx, i.val < s.acNst.toNat → s.acKind[i] ≠ kindNone
  /-- A stage whose last applied kind is NONE has zero state (D40). -/
  unapplied_zero : ∀ i : StageIdx, s.acKind[i] = kindNone → s.st[i] = zeroStage

end Sys2Proof.Machine
end

