-- ==== Sys2Proof/Certificates/Slice0/Obligations.lean ====
section
/-! DEFINITION. What is claimed of QBQ, from the numbered rules of spec/, as propositions for the provers. Each docstring
names the rule; a clause that rests on a choice of the model names its log entry. -/

open Sys2Proof Sys2Proof.Machine

/-! ### Encoding and decoding -/

/-- R70, R74, R80: every instruction is read back from its encoding, with every operand at every value. -/
def Obligations.DecodeOfEncode : Prop :=
  ∀ i : Instr, decode (encode i) = .ok i

/-- R70, R75: a command word that decodes is the encoding of what it decodes to, so no bit of it is dropped. The DATA word
is kept too, but where the opcode ignores it: there the encoder writes 0, and every DATA word decodes to the same
instruction. -/
def Obligations.CommandWordHasOneMeaning : Prop :=
  ∀ (cmd data : Word) (i : Instr), decode (.command cmd data) = .ok i →
    ∃ d, encode i = .command cmd d ∧
      (d = data ∨ (d = 0 ∧ ∀ data' : Word, decode (.command cmd data') = .ok i))

/-- R74, R75, R271, R272: the outcome of every command word, from R74's match and mask pairs: an opcode outside the map,
a reserved-field violation, a stage out of range, a selector out of range, in this order, and otherwise the decoded
instruction is executed. -/
def Obligations.CommandWordsClassified : Prop :=
  ∀ (cmd data : Word) (s : State),
    ((∀ row ∈ r74Rows, row.1 ≠ cmd.extractLsb' 24 8) →
      step (s.offer (.command cmd data)) = .next (refusedWith 0x01 s)) ∧
    ∀ row ∈ r74Rows, row.1 = cmd.extractLsb' 24 8 →
      (cmd &&& row.2.1 ≠ row.1.zeroExtend 32 <<< 24 →
        step (s.offer (.command cmd data)) = .next (refusedWith 0x02 s)) ∧
      (cmd &&& row.2.1 = row.1.zeroExtend 32 <<< 24 → 20 ≤ (cmd.extractLsb' 16 8).toNat →
        step (s.offer (.command cmd data)) = .next (refusedWith 0x03 s)) ∧
      (cmd &&& row.2.1 = row.1.zeroExtend 32 <<< 24 → (cmd.extractLsb' 16 8).toNat < 20 →
        row.2.2 < (cmd.extractLsb' 8 8).toNat →
        step (s.offer (.command cmd data)) = .next (refusedWith 0x04 s)) ∧
      (cmd &&& row.2.1 = row.1.zeroExtend 32 <<< 24 → (cmd.extractLsb' 16 8).toNat < 20 →
        (cmd.extractLsb' 8 8).toNat ≤ row.2.2 →
        ∃ i : Instr, i.wellFormed = true ∧ decode (.command cmd data) = .ok i ∧
          step (s.offer (.command cmd data)) = exec i s)

/-- Command words written out in the spec decode to the instructions they stand for (R110, R200, R201, R204, R206, R209,
R211, R250, R251, and the programs of 95_test_vectors.md). -/
def Obligations.SpecWordsDecode : Prop :=
  decode (.command 0x00000000 0xFFFFFFFF) = .ok .nop ∧
  decode (.command 0x01000000 0x08000000) = .ok (.lda 0x08000000) ∧
  decode (.command 0x04000000 0x7FFFFFFF) = .ok (.msu 0x7FFFFFFF) ∧
  decode (.command 0x10020000 0x00000006) = .ok (.wkind 2 6) ∧
  decode (.command 0x11000400 0xF8000000) = .ok (.wcoef 0 4 0xF8000000) ∧
  decode (.command 0x13130500 0x00000000) = .ok (.rscoef 19 5) ∧
  decode (.command 0x15000100 0x00000000) = .ok (.rnst 1) ∧
  decode (.command 0x18000400 0x00000000) = .ok (.rstate 0 4) ∧
  decode (.command 0x21030000 0x00000000) = .ok (.rstst 3) ∧
  decode (.command 0x23000000 0x00000000) = .ok .rstat

/-- R80: the sample port's four codes, all defined. -/
def Obligations.SampleCodesDecode : Prop :=
  ∀ l r : Word,
    decode (.sample 0b00 l r) = .ok .idle ∧ decode (.sample 0b01 l r) = .ok (.sample l r) ∧
    decode (.sample 0b10 l r) = .ok .boundary ∧ decode (.sample 0b11 l r) = .ok (.sample16 l r)

/-! ### Steps, refusals and reset -/

/-- R55: the step whose next event is a transaction that decodes executes exactly that instruction; the model's queue of
events loses its head and nothing else (log 1). That the events stand in a list is the model's choice (log 1). -/
def Obligations.StepRunsDecodedTransaction : Prop :=
  ∀ (s : State) (x : Transaction) (rest : List Event) (i : Instr),
    s.pending = .transaction x :: rest → decode x = .ok i → step s = exec i { s with pending := rest }

/-- R270: the step whose next event is a command word the decoder refuses is a refused command. With no event presented
the model's state does not change (log 2). -/
def Obligations.StepOfRefusedWordOrOfNothing : Prop :=
  (∀ (s : State) (x : Transaction) (rest : List Event) (e : CmdError),
    s.pending = .transaction x :: rest → decode x = .error e →
      step s = .next (refusedWith e.code { s with pending := rest })) ∧
  ∀ s : State, s.pending = [] → step s = .next s

/-- R277, R321: nothing stops QBQ; every step from every state answers a next state. -/
def Obligations.EveryStepCompletes : Prop :=
  ∀ s : State, ∃ t, step s = .next t

/-- R26, R27, R29, R30, R34, R203, R210, R213, D40: the invariant of the machine is kept by every step. The conjunction
is the model's, deduced from the rules named at each clause of `Inv`. -/
def Obligations.StepKeepsInvariant : Prop :=
  ∀ s t : State, Inv s → step s = .next t → Inv t

/-- R39: the reset state meets the invariant. The invariant is the model's summary of the legal values. -/
def Obligations.ResetMeetsInvariant : Prop :=
  Inv State.reset

/-- R39: the value of every piece of state after reset, and the identity constant. -/
def Obligations.ResetValues : Prop :=
  State.reset.opa = 0 ∧ State.reset.acc = 0 ∧
  (∀ i : StageIdx, State.reset.shCoef[i] = ⟨0, 0, 0, 0, 0, 0⟩ ∧ State.reset.shKind[i] = 0xF ∧
    State.reset.acCoef[i] = ⟨0, 0, 0, 0, 0, 0⟩ ∧ State.reset.acKind[i] = 0xF ∧
    State.reset.st[i] = ⟨⟨0, 0, 0, 0⟩, ⟨0, 0, 0, 0⟩⟩ ∧ State.reset.rstPend[i] = false) ∧
  State.reset.shNst = 0 ∧ State.reset.acNst = 0 ∧ State.reset.commitPending = false ∧
  State.reset.err = false ∧ State.reset.errCode = 0x00 ∧ State.reset.sat = false ∧ State.reset.dsat = false ∧
  identWord = 0x421C1401

/-- R300: RESET puts every piece of state to its reset value at once, discards what is pending and drives no port; the
events still to come are the agents' and stay (log 11). -/
def Obligations.ResetEventResets : Prop :=
  ∀ (s : State) (rest : List Event), s.pending = .reset :: rest →
    step s = .next { State.reset with pending := rest }

/-- R275, R270, R271: a command that raises ERR left every other piece of state as it was, recorded one of the eight
codes, and returned RESULT 0. R275 is the spec's own inference from R270. -/
def Obligations.RefusalIsPrecise : Prop :=
  ∀ (s t : State) (cmd data : Word), step (s.offer (.command cmd data)) = .next t →
    s.err = false → t.err = true →
      t = { s with err := true, errCode := t.errCode, reply := .result 0 } ∧
      1 ≤ t.errCode.toNat ∧ t.errCode.toNat ≤ 8

/-- R34, R273: once ERR is set, no event but CLRST and RESET changes ERR or ERRCODE, so the first code since the last
clear is kept. -/
def Obligations.FirstErrorCodeIsKept : Prop :=
  ∀ s t : State, s.err = true → (∀ e rest, s.pending = e :: rest → e.keepsError) → step s = .next t →
    t.err = true ∧ t.errCode = s.errCode

/-- R203: every shadow write whose fields are in range is refused with BUSY while a commit is pending, whatever its data,
and the shadow bank is unchanged. -/
def Obligations.ShadowWritesAreBusy : Prop :=
  ∀ (s : State) (stg sel : BitVec 8) (data : Word), s.commitPending = true → stg.toNat < 20 → sel.toNat < 6 →
    exec (.wkind stg data) s = .next (refusedWith 0x07 s) ∧
    exec (.wcoef stg sel data) s = .next (refusedWith 0x07 s) ∧
    exec (.wnst data) s = .next (refusedWith 0x07 s)

/-! ### Multiplier, accumulator and conversions -/

/-- R101: the three reductions of a product: floor, truncation toward zero, nearest with halves away from zero. -/
def Obligations.ReductionRounds : Prop :=
  ∀ p : Int,
    (reduceProduct .floor p * 2 ^ 28 ≤ p ∧ p < (reduceProduct .floor p + 1) * 2 ^ 28) ∧
    (|reduceProduct .towardZero p * 2 ^ 28| ≤ |p| ∧ |p| < |reduceProduct .towardZero p * 2 ^ 28| + 2 ^ 28 ∧
      0 ≤ reduceProduct .towardZero p * p) ∧
    NearestAway p 28 (reduceProduct .halfAway p)

/-- R102: a product saturates and never wraps; under FLOOR it fits exactly when bits 63 down to 59 of the 64-bit product
are all equal. The last clause is the spec's own inference in R102. -/
def Obligations.ProductSaturation : Prop :=
  ∀ (P : Config.Params) (a b : Word),
    (reduceProduct P.mulRound (a.toInt * b.toInt) > 2 ^ 31 - 1 → qMul P a b = ⟨0x7FFFFFFF, true⟩) ∧
    (reduceProduct P.mulRound (a.toInt * b.toInt) < -(2 ^ 31) → qMul P a b = ⟨0x80000000, true⟩) ∧
    (-(2 ^ 31) ≤ reduceProduct P.mulRound (a.toInt * b.toInt) → reduceProduct P.mulRound (a.toInt * b.toInt) ≤ 2 ^ 31 - 1 →
      (qMul P a b).sat = false ∧ (qMul P a b).word.toInt = reduceProduct P.mulRound (a.toInt * b.toInt)) ∧
    (P.mulRound = .floor →
      ((qMul P a b).sat = false ↔
        (BitVec.ofInt 64 (a.toInt * b.toInt)).extractLsb' 59 5 = 0b00000 ∨
        (BitVec.ofInt 64 (a.toInt * b.toInt)).extractLsb' 59 5 = 0b11111))

/-- R106 (a) to (i): the laws of the multiplication, for every MUL_ROUND unless stated. R106 is the spec's own inference
from R100 to R102. -/
def Obligations.MultiplicationLaws : Prop :=
  ∀ P : Config.Params,
    (∀ a b : Word, qMul P a b = qMul P b a) ∧
    (∀ a : Word, qMul P a 0x10000000 = ⟨a, false⟩) ∧
    (∀ a : Word, qMul P a 0 = ⟨0, false⟩) ∧
    qMul P 0x7FFFFFFF 0x7FFFFFFF = ⟨0x7FFFFFFF, true⟩ ∧
    qMul P 0x80000000 0x80000000 = ⟨0x7FFFFFFF, true⟩ ∧
    qMul P 0x80000000 0x7FFFFFFF = ⟨0x80000000, true⟩ ∧
    qMul P 0x80000000 0x10000000 = ⟨0x80000000, false⟩ ∧
    qMul P 0x80000000 0xF0000000 = ⟨0x7FFFFFFF, true⟩ ∧
    (P.mulRound = .floor → qMul P 0xFFFFFFFF 0x00000001 = ⟨0xFFFFFFFF, false⟩) ∧
    (P.mulRound ≠ .floor → qMul P 0xFFFFFFFF 0x00000001 = ⟨0x00000000, false⟩) ∧
    (∀ a b : Word, |a.toInt| < 2 ^ 28 → |b.toInt| < 2 ^ 28 → (qMul P a b).sat = false) ∧
    (∀ a b : Word, P.mulRound ≠ .floor → (qMul P a b).sat = false → (qMul P a b).word ≠ 0 →
      (qMul P a b).word.toInt.sign = (a.toInt * b.toInt).sign) ∧
    (∀ a b : Word, P.mulRound = .floor → a.toInt * b.toInt < 0 → (qMul P a b).word.toInt ≤ 0)

/-- R110: LDA. -/
def Obligations.LdaLoadsOperand : Prop :=
  CommandEncoding 0x01 false false (fun _ _ d => .lda d) ∧
  ∀ (s : State) (d : Word), exec (.lda d) s = .next { s with opa := d, reply := .result 0 }

/-- R111 with R100 to R102: QMUL returns the floored and saturated product of OPA and DATA. -/
def Obligations.QmulReturnsProduct : Prop :=
  CommandEncoding 0x02 false false (fun _ _ d => .qmul d) ∧
  ∀ (s : State) (d : Word),
    exec (.qmul d) s = .next { s with
      reply := .result (BitVec.ofInt 32 (clampTo 32 (s.opa.toInt * d.toInt / 2 ^ 28)))
      sat := s.sat || decide (clampTo 32 (s.opa.toInt * d.toInt / 2 ^ 28) ≠ s.opa.toInt * d.toInt / 2 ^ 28) }

/-- R112 with R103: MAC adds the saturated product to ACC, which saturates at 40 bits. -/
def Obligations.MacAddsProduct : Prop :=
  CommandEncoding 0x03 false false (fun _ _ d => .mac d) ∧
  ∀ (s : State) (d : Word) (q w n : Int), q = s.opa.toInt * d.toInt / 2 ^ 28 → w = clampTo 32 q → n = s.acc.toInt + w →
    exec (.mac d) s = .next { s with
      acc := BitVec.ofInt 40 (clampTo 40 n)
      sat := s.sat || decide (w ≠ q) || decide (clampTo 40 n ≠ n)
      reply := .result 0 }

/-- R113 with R103: MSU subtracts the saturated product from ACC, which saturates at 40 bits. -/
def Obligations.MsuSubtractsProduct : Prop :=
  CommandEncoding 0x04 false false (fun _ _ d => .msu d) ∧
  ∀ (s : State) (d : Word) (q w n : Int), q = s.opa.toInt * d.toInt / 2 ^ 28 → w = clampTo 32 q → n = s.acc.toInt - w →
    exec (.msu d) s = .next { s with
      acc := BitVec.ofInt 40 (clampTo 40 n)
      sat := s.sat || decide (w ≠ q) || decide (clampTo 40 n ≠ n)
      reply := .result 0 }

/-- R107: ACC holds up to 256 full-scale products: a MAC of 0x7FFFFFFF by 1.0 goes from `k` to `k + 1` of them exactly
for every `k` below 256, and the next one saturates. R107 is the spec's own inference from R103 and R112. -/
def Obligations.AccumulatorHoldsFullScaleProducts : Prop :=
  ∀ (s : State) (k : Nat), s.opa = 0x7FFFFFFF → s.acc.toInt = k * (2 ^ 31 - 1) →
    (k < 256 → ∃ a : BitVec 40, a.toInt = (k + 1) * (2 ^ 31 - 1) ∧
      exec (.mac 0x10000000) s = .next { s with acc := a, reply := .result 0 }) ∧
    (k = 256 → exec (.mac 0x10000000) s = .next { s with acc := 0x7FFFFFFFFF, sat := true, reply := .result 0 })

/-- R114: ACLR. -/
def Obligations.AclrClearsAccumulator : Prop :=
  CommandEncoding 0x05 false false (fun _ _ _ => .aclr) ∧
  ∀ s : State, exec .aclr s = .next { s with acc := 0, reply := .result 0 }

/-- R115: ARD reads ACC saturated to a FixedValue. -/
def Obligations.ArdReadsAccumulator : Prop :=
  CommandEncoding 0x06 false false (fun _ _ _ => .ard) ∧
  ∀ s : State,
    exec .ard s = .next { s with
      reply := .result (BitVec.ofInt 32 (clampTo 32 s.acc.toInt))
      sat := s.sat || decide (clampTo 32 s.acc.toInt ≠ s.acc.toInt) }

/-- R116: ALD loads DATA sign-extended to 40 bits. -/
def Obligations.AldLoadsAccumulator : Prop :=
  CommandEncoding 0x07 false false (fun _ _ d => .ald d) ∧
  ∀ (s : State) (d : Word), ∃ a : BitVec 40, a.toInt = d.toInt ∧
    exec (.ald d) s = .next { s with acc := a, reply := .result 0 }

/-- R117 with R104: CVTIQ returns the 16-bit sample scaled by 2^13; DATA[31:16] is ignored. -/
def Obligations.CvtiqScalesSample : Prop :=
  CommandEncoding 0x08 false false (fun _ _ d => .cvtiq d) ∧
  ∀ (s : State) (d : Word), ∃ w : Word, w.toInt = (d.extractLsb' 0 16).toInt * 8192 ∧
    exec (.cvtiq d) s = .next { s with reply := .result w }

/-- R118 with R105: CVTQI returns the nearest 16-bit sample, halves away from zero, saturated, sign-extended. -/
def Obligations.CvtqiRoundsToSample : Prop :=
  CommandEncoding 0x09 false false (fun _ _ d => .cvtqi d) ∧
  ∀ (s : State) (d : Word), ∃ r : Int, NearestAway d.toInt 13 r ∧
    exec (.cvtqi d) s = .next { s with
      reply := .result (BitVec.ofInt 32 (clampTo 16 r))
      sat := s.sat || decide (clampTo 16 r ≠ r) }

/-- R104, R105: the two sample conversions, and their exact round trip. The round trip is the spec's own inference in
R105. -/
def Obligations.SampleConversionRoundTrip : Prop :=
  (∀ h : BitVec 16, (fromI16 h).toInt = h.toInt * 8192) ∧
  (∀ v : Word, ∃ r : Int, NearestAway v.toInt 13 r ∧ toI16 v = ⟨BitVec.ofInt 16 (clampTo 16 r), decide (clampTo 16 r ≠ r)⟩) ∧
  ∀ h : BitVec 16, toI16 (fromI16 h) = ⟨h, false⟩

/-! ### The biquad stage and the sample path -/

/-- R170, R173: the difference equation with its single final saturation or wrap, the saturation bit, and the state shift. -/
def Obligations.StageStepEquation : Prop :=
  ∀ (P : Config.Params) (C : Coeffs) (S : BqState) (x : Word) (n : Int),
    n = (qMul P C.b0 x).word.toInt - (qMul P C.a1 S.y1).word.toInt + (qMul P C.b1 S.x1).word.toInt
        - (qMul P C.a2 S.y2).word.toInt + (qMul P C.b2 S.x2).word.toInt →
    (bqStep P C S x).lane = ⟨x, S.x1, (bqStep P C S x).y, S.y1⟩ ∧
    (P.sumMode = .satFinal → (bqStep P C S x).y.toInt = clampTo 32 n) ∧
    (P.sumMode = .wrap32 → (bqStep P C S x).y = BitVec.ofInt 32 n) ∧
    ((bqStep P C S x).sat = true ↔
      (qMul P C.b0 x).sat = true ∨ (qMul P C.a1 S.y1).sat = true ∨ (qMul P C.b1 S.x1).sat = true ∨
      (qMul P C.a2 S.y2).sat = true ∨ (qMul P C.b2 S.x2).sat = true ∨ clampTo 32 n ≠ n)

/-- R172: a0 is not read by the stage step, and replacing the a0 words of the active bank changes no sample output and no
state the samples leave. -/
def Obligations.A0NeverReachesTheOutput : Prop :=
  (∀ (P : Config.Params) (C : Coeffs) (a : Word) (S : BqState) (x : Word),
    bqStep P { C with a0 := a } S x = bqStep P C S x) ∧
  ∀ (s : State) (v : Vector Coeffs 20) (l r : Word), (∀ i : StageIdx, ∃ a, v[i] = { s.acCoef[i] with a0 := a }) →
    (∃ t, exec (.sample l r) s = .next t ∧ exec (.sample l r) { s with acCoef := v } = .next { t with acCoef := v }) ∧
    (∃ t, exec (.sample16 l r) s = .next t ∧
      exec (.sample16 l r) { s with acCoef := v } = .next { t with acCoef := v })

/-- R174 (a) to (e): the corner cases of the stage step. R174 is the spec's own inference from R170 to R173. -/
def Obligations.StageStepCornerCases : Prop :=
  (∀ (P : Config.Params) (a0 x : Word) (S : BqState),
    bqStep P ⟨0x10000000, 0, 0, a0, 0, 0⟩ S x = ⟨x, ⟨x, S.x1, x, S.y1⟩, false⟩ ∧
    bqStep P ⟨0, 0, 0, a0, 0, 0⟩ S x = ⟨0, ⟨x, S.x1, 0, S.y1⟩, false⟩) ∧
  (∀ P : Config.Params, bqStep P ⟨0, 0, 0, 0, 0, 0⟩ ⟨0, 0, 0, 0⟩ 0 = ⟨0, ⟨0, 0, 0, 0⟩, false⟩) ∧
  (∀ (P : Config.Params) (C : Coeffs) (S : BqState), C.b0 = 0x7FFFFFFF →
    (qMul P C.b0 0x7FFFFFFF).word = 0x7FFFFFFF ∧ (bqStep P C S 0x7FFFFFFF).sat = true) ∧
  (∀ m : Config.SumMode,
    qMul ⟨.floor, m⟩ 0xF8000000 0xFFFFFFFF = ⟨0x00000000, false⟩ ∧
    qMul ⟨.floor, m⟩ 0xF8000000 0x00000001 = ⟨0xFFFFFFFF, false⟩ ∧
    qMul ⟨.towardZero, m⟩ 0xF8000000 0xFFFFFFFF = ⟨0, false⟩ ∧ qMul ⟨.towardZero, m⟩ 0xF8000000 0x00000001 = ⟨0, false⟩) ∧
  (∀ (m : Config.SumMode) (a0 y2 : Word),
    bqStep ⟨.floor, m⟩ ⟨0, 0, 0, a0, 0xF8000000, 0⟩ ⟨0, 0, 0x00000001, y2⟩ 0 =
      ⟨0x00000001, ⟨0, 0, 0x00000001, 0x00000001⟩, false⟩ ∧
    bqStep ⟨.floor, m⟩ ⟨0, 0, 0, a0, 0xF8000000, 0⟩ ⟨0, 0, 0xFFFFFFFF, y2⟩ 0 = ⟨0, ⟨0, 0, 0, 0xFFFFFFFF⟩, false⟩ ∧
    (bqStep ⟨.towardZero, m⟩ ⟨0, 0, 0, a0, 0xF8000000, 0⟩ ⟨0, 0, 0x00000001, y2⟩ 0).y = 0 ∧
    (bqStep ⟨.towardZero, m⟩ ⟨0, 0, 0, a0, 0xF8000000, 0⟩ ⟨0, 0, 0xFFFFFFFF, y2⟩ 0).y = 0)

/-- R176, R180: SAMPLE runs each channel through the active stages in index order, each stage's output the next one's
input, each active stage once; the inactive stages and everything but ST and DSAT keep their values. `v c k` is channel
`c`'s value before stage `k`. The premise is R30's range of AC_NST. -/
def Obligations.SampleRunsTheChain : Prop :=
  (∀ l r : Word, decode (.sample 0b01 l r) = .ok (.sample l r)) ∧
  ∀ (s : State) (l r : Word), s.acNst.toNat ≤ 20 →
    ∃ (t : State) (v : Channel → Nat → Word),
      v .left 0 = l ∧ v .right 0 = r ∧
      (∀ (c : Channel) (i : StageIdx), i.val < s.acNst.toNat →
        v c (i.val + 1) = (bqStep hwParams s.acCoef[i] (s.st[i].lane c) (v c i.val)).y ∧
        t.st[i].lane c = (bqStep hwParams s.acCoef[i] (s.st[i].lane c) (v c i.val)).lane) ∧
      (∀ i : StageIdx, s.acNst.toNat ≤ i.val → t.st[i] = s.st[i]) ∧
      (t.dsat = true ↔ s.dsat = true ∨ ∃ (c : Channel) (i : StageIdx), i.val < s.acNst.toNat ∧
        (bqStep hwParams s.acCoef[i] (s.st[i].lane c) (v c i.val)).sat = true) ∧
      t = { s with
        st := t.st
        dsat := t.dsat
        reply := .outputs (v .left s.acNst.toNat) (v .right s.acNst.toNat) } ∧
      exec (.sample l r) s = .next t

/-- R181: SAMPLE16 is SAMPLE on the converted inputs with its outputs converted back; the upper halves of the inputs are
ignored, and DSAT also records the output conversions. -/
def Obligations.Sample16ConvertsAroundTheChain : Prop :=
  (∀ l r : Word, decode (.sample 0b11 l r) = .ok (.sample16 l r)) ∧
  ∀ (s : State) (l r : Word), ∃ (wl wr a b : Word) (rl rr : Int) (t : State),
    wl.toInt = (l.extractLsb' 0 16).toInt * 8192 ∧ wr.toInt = (r.extractLsb' 0 16).toInt * 8192 ∧
    exec (.sample wl wr) s = .next t ∧ t.reply = .outputs a b ∧
    NearestAway a.toInt 13 rl ∧ NearestAway b.toInt 13 rr ∧
    exec (.sample16 l r) s = .next { t with
      dsat := t.dsat || decide (clampTo 16 rl ≠ rl) || decide (clampTo 16 rr ≠ rr)
      reply := .outputs (BitVec.ofInt 32 (clampTo 16 rl)) (BitVec.ofInt 32 (clampTo 16 rr)) }

/-- R182: IDLE answers zeros and leaves every state as it was. -/
def Obligations.IdleDoesNothing : Prop :=
  (∀ l r : Word, decode (.sample 0b00 l r) = .ok .idle) ∧
  ∀ s : State, exec .idle s = .next { s with reply := .outputs 0 0 }

/-- R177, R181, R302: with an empty chain every chain run returns its input, SAMPLE its inputs and SAMPLE16 its input
samples, and no state changes. R177 and R302 are the spec's own inferences. -/
def Obligations.EmptyChainPassesThrough : Prop :=
  ∀ s : State, s.acNst = 0 →
    (∀ (P : Config.Params) (c : Channel) (x : Word), chainRun P c x s = ⟨x, s.st, false⟩) ∧
    ∀ l r : Word,
      exec (.sample l r) s = .next { s with reply := .outputs l r } ∧
      exec (.sample16 l r) s = .next { s with
        reply := .outputs ((l.extractLsb' 0 16).signExtend 32) ((r.extractLsb' 0 16).signExtend 32) }

/-- R179, R175: what one channel of a sample outputs and leaves depends only on its own input, its own lanes and the
active bank. -/
def Obligations.LanesDoNotInteract : Prop :=
  ∀ (s u : State) (x y y' : Word), s.acCoef = u.acCoef → s.acNst = u.acNst →
    ((∀ i : StageIdx, s.st[i].left = u.st[i].left) →
      ∃ (t t' : State) (a b b' : Word), exec (.sample x y) s = .next t ∧ exec (.sample x y') u = .next t' ∧
        t.reply = .outputs a b ∧ t'.reply = .outputs a b' ∧ ∀ i : StageIdx, t.st[i].left = t'.st[i].left) ∧
    ((∀ i : StageIdx, s.st[i].right = u.st[i].right) →
      ∃ (t t' : State) (a b b' : Word), exec (.sample y x) s = .next t ∧ exec (.sample y' x) u = .next t' ∧
        t.reply = .outputs b a ∧ t'.reply = .outputs b' a ∧ ∀ i : StageIdx, t.st[i].right = t'.st[i].right)

/-- R62, R176: the shadow bank is never seen by the sample path: whatever it holds, samples answer and leave the same.
R62 is the spec's own inference from R59 and R213. -/
def Obligations.ShadowBankIsNotSeen : Prop :=
  ∀ (s : State) (c : Vector Coeffs 20) (k : Vector Kind 20) (n : BitVec 8) (l r : Word),
    (∃ t, exec (.sample l r) s = .next t ∧
      exec (.sample l r) { s with shCoef := c, shKind := k, shNst := n } =
        .next { t with shCoef := c, shKind := k, shNst := n }) ∧
    (∃ t, exec (.sample16 l r) s = .next t ∧
      exec (.sample16 l r) { s with shCoef := c, shKind := k, shNst := n } =
        .next { t with shCoef := c, shKind := k, shNst := n })

/-! ### The coefficient, kind, length and state memories -/

/-- R200, R203: WKIND, its effect and every refusal of it. -/
def Obligations.WkindWritesShadowKind : Prop :=
  CommandEncoding 0x10 true false (fun stg _ d => .wkind stg d) ∧
  ∀ (s : State) (stg : BitVec 8) (d : Word),
    (∀ i : StageIdx, stg.toNat = i.val → s.commitPending = false → d.toNat ≤ 9 →
      exec (.wkind stg d) s = .next { s with
        shKind := s.shKind.set i (BitVec.ofNat 4 d.toNat)
        reply := .result 0 }) ∧
    (20 ≤ stg.toNat → exec (.wkind stg d) s = .next (refusedWith 0x03 s)) ∧
    (stg.toNat < 20 → s.commitPending = true → exec (.wkind stg d) s = .next (refusedWith 0x07 s)) ∧
    (stg.toNat < 20 → s.commitPending = false → 9 < d.toNat → exec (.wkind stg d) s = .next (refusedWith 0x05 s))

/-- R201, R203, R25: WCOEF, its effect on one word of the shadow bank and every refusal of it. -/
def Obligations.WcoefWritesShadowWord : Prop :=
  CommandEncoding 0x11 true true (fun stg sel d => .wcoef stg sel d) ∧
  ∀ (s : State) (stg sel : BitVec 8) (d : Word),
    (∀ i : StageIdx, stg.toNat = i.val → sel.toNat < 6 → s.commitPending = false →
      ∃ c : Coeffs, c.words = s.shCoef[i].words.set sel.toNat d ∧
        exec (.wcoef stg sel d) s = .next { s with shCoef := s.shCoef.set i c, reply := .result 0 }) ∧
    (20 ≤ stg.toNat → exec (.wcoef stg sel d) s = .next (refusedWith 0x03 s)) ∧
    (stg.toNat < 20 → 5 < sel.toNat → exec (.wcoef stg sel d) s = .next (refusedWith 0x04 s)) ∧
    (stg.toNat < 20 → sel.toNat < 6 → s.commitPending = true →
      exec (.wcoef stg sel d) s = .next (refusedWith 0x07 s))

/-- R202, R203: WNST, its effect and every refusal of it. -/
def Obligations.WnstWritesShadowLength : Prop :=
  CommandEncoding 0x12 false false (fun _ _ d => .wnst d) ∧
  ∀ (s : State) (d : Word),
    (s.commitPending = false → d.toNat ≤ 20 →
      exec (.wnst d) s = .next { s with shNst := BitVec.ofNat 8 d.toNat, reply := .result 0 }) ∧
    (s.commitPending = true → exec (.wnst d) s = .next (refusedWith 0x07 s)) ∧
    (s.commitPending = false → 20 < d.toNat → exec (.wnst d) s = .next (refusedWith 0x06 s))

/-- R204, R207, R25: RSCOEF and RACOEF return the word of that index, change nothing, and refuse as they say. -/
def Obligations.CoefficientReads : Prop :=
  CommandEncoding 0x13 true true (fun stg sel _ => .rscoef stg sel) ∧
  CommandEncoding 0x16 true true (fun stg sel _ => .racoef stg sel) ∧
  ∀ (s : State) (stg sel : BitVec 8),
    (∀ i : StageIdx, stg.toNat = i.val → sel.toNat < 6 →
      ∃ w w' : Word, s.shCoef[i].words[sel.toNat]? = some w ∧ s.acCoef[i].words[sel.toNat]? = some w' ∧
        exec (.rscoef stg sel) s = .next { s with reply := .result w } ∧
        exec (.racoef stg sel) s = .next { s with reply := .result w' }) ∧
    (20 ≤ stg.toNat → exec (.rscoef stg sel) s = .next (refusedWith 0x03 s) ∧
      exec (.racoef stg sel) s = .next (refusedWith 0x03 s)) ∧
    (stg.toNat < 20 → 5 < sel.toNat → exec (.rscoef stg sel) s = .next (refusedWith 0x04 s) ∧
      exec (.racoef stg sel) s = .next (refusedWith 0x04 s))

/-- R205, R208: RSKIND and RAKIND return the kind register zero-extended, change nothing, and refuse as they say. -/
def Obligations.KindReads : Prop :=
  CommandEncoding 0x14 true false (fun stg _ _ => .rskind stg) ∧
  CommandEncoding 0x17 true false (fun stg _ _ => .rakind stg) ∧
  ∀ (s : State) (stg : BitVec 8),
    (∀ i : StageIdx, stg.toNat = i.val →
      exec (.rskind stg) s = .next { s with reply := .result (BitVec.ofNat 32 s.shKind[i].toNat) } ∧
      exec (.rakind stg) s = .next { s with reply := .result (BitVec.ofNat 32 s.acKind[i].toNat) }) ∧
    (20 ≤ stg.toNat → exec (.rskind stg) s = .next (refusedWith 0x03 s) ∧
      exec (.rakind stg) s = .next (refusedWith 0x03 s))

/-- R206: RNST returns the shadow or the active chain length, and refuses any other selector. -/
def Obligations.ChainLengthReads : Prop :=
  CommandEncoding 0x15 false true (fun _ sel _ => .rnst sel) ∧
  ∀ (s : State) (sel : BitVec 8),
    (sel.toNat = 0 → exec (.rnst sel) s = .next { s with reply := .result (BitVec.ofNat 32 s.shNst.toNat) }) ∧
    (sel.toNat = 1 → exec (.rnst sel) s = .next { s with reply := .result (BitVec.ofNat 32 s.acNst.toNat) }) ∧
    (1 < sel.toNat → exec (.rnst sel) s = .next (refusedWith 0x04 s))

/-- R209, R57, R31: RSTATE returns state word `sel mod 4` of channel `sel div 4`, and refuses as it says. -/
def Obligations.StateReads : Prop :=
  CommandEncoding 0x18 true true (fun stg sel _ => .rstate stg sel) ∧
  ∀ (s : State) (stg sel : BitVec 8),
    (∀ i : StageIdx, stg.toNat = i.val → sel.toNat < 8 →
      ∃ w : Word, (s.st[i].left.words ++ s.st[i].right.words)[sel.toNat]? = some w ∧
        exec (.rstate stg sel) s = .next { s with reply := .result w }) ∧
    (20 ≤ stg.toNat → exec (.rstate stg sel) s = .next (refusedWith 0x03 s)) ∧
    (stg.toNat < 20 → 7 < sel.toNat → exec (.rstate stg sel) s = .next (refusedWith 0x04 s))

/-- R64, R25: after a successful WCOEF, RSCOEF of that word returns the data written, and RSCOEF of any other word
returns what it returned before. R64 is the spec's own inference from R55 and R25. -/
def Obligations.CoefficientReadAfterWrite : Prop :=
  ∀ (s : State) (stg sel stg' sel' : BitVec 8) (d : Word), s.commitPending = false →
    stg.toNat < 20 → sel.toNat < 6 → stg'.toNat < 20 → sel'.toNat < 6 →
    ∃ (t : State) (w : Word), exec (.wcoef stg sel d) s = .next t ∧
      exec (.rscoef stg' sel') t = .next { t with reply := .result w } ∧
      (stg' = stg ∧ sel' = sel → w = d) ∧
      (¬ (stg' = stg ∧ sel' = sel) → exec (.rscoef stg' sel') s = .next { s with reply := .result w })

/-! ### Commit, resets and the block boundary -/

/-- R210: COMMIT is accepted exactly when every stage below SH_NST has a kind; the swap itself waits. The premise is R27's
range of SH_NST. -/
def Obligations.CommitRequestsSwap : Prop :=
  CommandEncoding 0x20 false false (fun _ _ _ => .commit) ∧
  ∀ s : State, s.shNst.toNat ≤ 20 →
    ((∀ i : StageIdx, i.val < s.shNst.toNat → s.shKind[i] ≠ 0xF) →
      exec .commit s = .next { s with commitPending := true, reply := .result 0 }) ∧
    (∀ i : StageIdx, i.val < s.shNst.toNat → s.shKind[i] = 0xF → exec .commit s = .next (refusedWith 0x08 s))

/-- R211, R212: RSTST and RSTALL set the request bits, whether or not a commit is pending. -/
def Obligations.ResetRequests : Prop :=
  CommandEncoding 0x21 true false (fun stg _ _ => .rstst stg) ∧
  CommandEncoding 0x22 false false (fun _ _ _ => .rstall) ∧
  ∀ s : State,
    (∀ (stg : BitVec 8) (i : StageIdx), stg.toNat = i.val →
      exec (.rstst stg) s = .next { s with rstPend := s.rstPend.set i true, reply := .result 0 }) ∧
    (∀ stg : BitVec 8, 20 ≤ stg.toNat → exec (.rstst stg) s = .next (refusedWith 0x03 s)) ∧
    ∃ v : Vector Bool 20, (∀ i : StageIdx, v[i] = true) ∧
      exec .rstall s = .next { s with rstPend := v, reply := .result 0 }

/-- R220, R213 to R216: what a BOUNDARY with a pending commit leaves, stage by stage. Below SH_NST the shadow words and
kind become active and the state is replayed where a replay is due, else kept; from SH_NST on all three are kept; a
requested state reset then zeroes the stage; nothing else changes. The premise is R27's range of SH_NST. -/
def Obligations.BoundaryAppliesCommit : Prop :=
  ∀ s : State, s.commitPending = true → s.shNst.toNat ≤ 20 →
    ∃ t : State, exec .boundary s = .next t ∧
      (∀ i : StageIdx, i.val < s.shNst.toNat → t.acCoef[i] = s.shCoef[i] ∧ t.acKind[i] = s.shKind[i] ∧
        (s.rstPend[i] = false → ReplayDue s i →
          t.st[i] = ⟨(replaySteps hwParams s.shCoef[i] s.st[i].left).2.lane,
            (replaySteps hwParams s.shCoef[i] s.st[i].right).2.lane⟩) ∧
        (s.rstPend[i] = false → ¬ ReplayDue s i → t.st[i] = s.st[i])) ∧
      (∀ i : StageIdx, s.shNst.toNat ≤ i.val → t.acCoef[i] = s.acCoef[i] ∧ t.acKind[i] = s.acKind[i] ∧
        (s.rstPend[i] = false → t.st[i] = s.st[i])) ∧
      (∀ i : StageIdx, (s.rstPend[i] = true → t.st[i] = ⟨⟨0, 0, 0, 0⟩, ⟨0, 0, 0, 0⟩⟩) ∧ t.rstPend[i] = false) ∧
      (t.dsat = true ↔ s.dsat = true ∨ ∃ (i : StageIdx) (c : Channel), i.val < s.shNst.toNat ∧ ReplayDue s i ∧
        ((replaySteps hwParams s.shCoef[i] (s.st[i].lane c)).1.sat = true ∨
          (replaySteps hwParams s.shCoef[i] (s.st[i].lane c)).2.sat = true)) ∧
      t = { s with
        acCoef := t.acCoef
        acKind := t.acKind
        acNst := s.shNst
        st := t.st
        commitPending := false
        rstPend := t.rstPend
        dsat := t.dsat
        reply := .outputs 0 0 }

/-- R220, R216: a BOUNDARY with no pending commit applies the requested state resets and changes nothing else; with
nothing pending at all it changes no state. -/
def Obligations.BoundaryAppliesResets : Prop :=
  (∀ l r : Word, decode (.sample 0b10 l r) = .ok .boundary) ∧
  ∀ s : State, s.commitPending = false →
    ∃ (st : Vector StageState 20) (rp : Vector Bool 20),
      (∀ i : StageIdx, (s.rstPend[i] = true → st[i] = ⟨⟨0, 0, 0, 0⟩, ⟨0, 0, 0, 0⟩⟩) ∧
        (s.rstPend[i] = false → st[i] = s.st[i]) ∧ rp[i] = false) ∧
      exec .boundary s = .next { s with st := st, rstPend := rp, reply := .outputs 0 0 } ∧
      ((∀ i : StageIdx, s.rstPend[i] = false) → exec .boundary s = .next { s with reply := .outputs 0 0 })

/-- R217 with R215: the closed form of a replay: x1 and x2 are kept, y1 and y2 are resynthesized from them, b2 and a2 do
not enter; with x1 and x2 zero the lane becomes zero; the other lane and the other stages are unchanged. R217 is the
spec's own inference from R170 and R215. -/
def Obligations.ReplayClosedForm : Prop :=
  ∀ (P : Config.Params) (s : State) (i : StageIdx) (c : Channel) (ya yb : Word),
    ya = (bqSum P.sumMode (qMul P s.acCoef[i].b0 (s.st[i].lane c).x2).word.toInt).word →
    yb = (bqSum P.sumMode ((qMul P s.acCoef[i].b0 (s.st[i].lane c).x1).word.toInt
        - (qMul P s.acCoef[i].a1 ya).word.toInt + (qMul P s.acCoef[i].b1 (s.st[i].lane c).x2).word.toInt)).word →
    (replay P i c s).st[i].lane c = ⟨(s.st[i].lane c).x1, (s.st[i].lane c).x2, yb, ya⟩ ∧
    ((s.st[i].lane c).x1 = 0 → (s.st[i].lane c).x2 = 0 → (replay P i c s).st[i].lane c = ⟨0, 0, 0, 0⟩) ∧
    (∀ d : Channel, d ≠ c → (replay P i c s).st[i].lane d = s.st[i].lane d) ∧
    (∀ j : StageIdx, j ≠ i → (replay P i c s).st[j] = s.st[j])

/-- R214 (c), R146, 95_test_vectors.md S6: applying the same configuration a second time changes nothing: no stage is
replayed, and the coefficients, kinds and state are those the first commit left. -/
def Obligations.SecondCommitChangesNothing : Prop :=
  ∀ (s : State) (r : Reply), s.commitPending = true →
    ∃ t, exec .boundary s = .next t ∧ exec .boundary { t with commitPending := true, reply := r } = .next t

/-- R220, R59, R28 to R30, R32, R33: only a BOUNDARY or a RESET changes the active bank, clears COMMIT_PENDING or clears a
RST_PEND bit. -/
def Obligations.ActiveBankChangesOnlyAtBoundary : Prop :=
  ∀ s t : State, (∀ e rest, s.pending = e :: rest → e.keepsActive) → step s = .next t →
    t.acCoef = s.acCoef ∧ t.acKind = s.acKind ∧ t.acNst = s.acNst ∧
    (s.commitPending = true → t.commitPending = true) ∧
    ∀ i : StageIdx, s.rstPend[i] = true → t.rstPend[i] = true

/-- R221, R312, R203: while the agents present no BOUNDARY and no RESET, a pending commit stays pending over any number of
steps, and the committed shadow bank does not change. -/
def Obligations.PendingCommitWaitsForBoundary : Prop :=
  ∀ (k : Nat) (s : State), s.commitPending = true → (∀ e ∈ s.pending, e.keepsActive) →
    ∃ t : State, Host.Core.run Sys2Proof.core k s = .next t ∧
      t.commitPending = true ∧ t.shCoef = s.shCoef ∧ t.shKind = s.shKind ∧ t.shNst = s.shNst ∧
      t.acCoef = s.acCoef ∧ t.acKind = s.acKind ∧ t.acNst = s.acNst

/-- R23 to R36: which instructions write each of the fifteen registers of the state tuple. ERR and ERRCODE are written by
CLRST and by a refusal of the command alone, and a refusal writes ERRCODE only where ERR was 0 (R34). -/
def Obligations.RegistersAreWrittenOnlyBy : Prop :=
  ∀ (i : Instr) (s t : State), exec i s = .next t →
    (t.opa ≠ s.opa → ∃ d, i = .lda d) ∧
    (t.acc ≠ s.acc → i = .aclr ∨ ∃ d, i = .mac d ∨ i = .msu d ∨ i = .ald d) ∧
    (t.shCoef ≠ s.shCoef → ∃ stg sel d, i = .wcoef stg sel d) ∧
    (t.shKind ≠ s.shKind → ∃ stg d, i = .wkind stg d) ∧
    (t.shNst ≠ s.shNst → ∃ d, i = .wnst d) ∧
    (t.acCoef ≠ s.acCoef → i = .boundary) ∧
    (t.acKind ≠ s.acKind → i = .boundary) ∧
    (t.acNst ≠ s.acNst → i = .boundary) ∧
    (t.err ≠ s.err → i = .clrst ∨ ∃ e : CmdError, t = refusedWith e.code s) ∧
    (t.errCode ≠ s.errCode → i = .clrst ∨ (s.err = false ∧ ∃ e : CmdError, t = refusedWith e.code s)) ∧
    (t.st ≠ s.st → i = .boundary ∨ ∃ l r, i = .sample l r ∨ i = .sample16 l r) ∧
    (t.commitPending ≠ s.commitPending → i = .commit ∨ i = .boundary) ∧
    (t.rstPend ≠ s.rstPend → i = .rstall ∨ i = .boundary ∨ ∃ stg, i = .rstst stg) ∧
    (t.sat ≠ s.sat → i = .ard ∨ i = .clrst ∨ ∃ d, i = .qmul d ∨ i = .mac d ∨ i = .msu d ∨ i = .cvtqi d) ∧
    (t.dsat ≠ s.dsat → i = .boundary ∨ i = .clrst ∨ ∃ l r, i = .sample l r ∨ i = .sample16 l r)

/-! ### Control and status -/

/-- R250, R252: NOP does nothing, RID returns the identity word; neither changes any state. -/
def Obligations.NopAndIdentity : Prop :=
  CommandEncoding 0x00 false false (fun _ _ _ => .nop) ∧
  CommandEncoding 0x24 false false (fun _ _ _ => .rid) ∧
  ∀ s : State,
    exec .nop s = .next { s with reply := .result 0x00000000 } ∧
    exec .rid s = .next { s with reply := .result 0x421C1401 }

/-- R251: the status word, field by field; the read changes nothing. -/
def Obligations.StatusWordFields : Prop :=
  CommandEncoding 0x23 false false (fun _ _ _ => .rstat) ∧
  ∀ s : State, ∃ w : Word, exec .rstat s = .next { s with reply := .result w } ∧
    w.getLsbD 0 = s.commitPending ∧
    (w.getLsbD 1 = true ↔ ∃ i : StageIdx, s.rstPend[i] = true) ∧
    w.getLsbD 2 = s.err ∧ w.getLsbD 3 = s.sat ∧ w.getLsbD 4 = s.dsat ∧
    w.extractLsb' 5 3 = 0 ∧ w.extractLsb' 8 8 = s.errCode ∧
    w.extractLsb' 16 8 = s.acNst ∧ w.extractLsb' 24 8 = s.shNst

/-- R253: CLRST clears ERR, ERRCODE, SAT and DSAT and nothing else. -/
def Obligations.ClrstClearsSticky : Prop :=
  CommandEncoding 0x25 false false (fun _ _ _ => .clrst) ∧
  ∀ s : State,
    exec .clrst s = .next { s with err := false, errCode := 0x00, sat := false, dsat := false, reply := .result 0 }

/-! ### The host's real conversions -/

/-- R150: FromDouble of a finite 64-bit float is the nearest FixedValue, halves away from zero, saturated; the infinities
saturate and a NaN has no FixedValue. The bit layout of the float is the model's (log 12). -/
def Obligations.FromDoubleRounds : Prop :=
  (∀ d : BitVec 64, doubleExponent d < 2047 → 1047 ≤ doubleExponent d →
    fromDouble d = some (BitVec.ofInt 32 (clampTo 32 (doubleSignificand d * 2 ^ (doubleExponent d - 1047))))) ∧
  (∀ d : BitVec 64, doubleExponent d < 1047 →
    ∃ r : Int, NearestAway (doubleSignificand d) (1047 - max (doubleExponent d) 1) r ∧
      fromDouble d = some (BitVec.ofInt 32 (clampTo 32 r))) ∧
  fromDouble 0x7FF0000000000000 = some 0x7FFFFFFF ∧ fromDouble 0xFFF0000000000000 = some 0x80000000 ∧
  ∀ d : BitVec 64, doubleExponent d = 2047 → doubleFraction d ≠ 0 → fromDouble d = none

/-- R151: FromDouble of ToDouble is exact for every FixedValue. The bit layout of the float is the model's (log 12).
R151's round trip is the spec's own inference. -/
def Obligations.RealConversionRoundTrip : Prop :=
  ∀ v : Word, fromDouble (toDouble v) = some v
end

