-- ==== Sys2Proof/Laws/Decode.lean ====
section
/-! SUPPORT. What the encoder and the decoder do to the fields of a command word, said once. -/

namespace Sys2Proof

/-- Concatenation as arithmetic: `a : b` with `a` in the high bits (00_scope.md R8). -/
theorem toNat_append_add {n m : Nat} (x : BitVec n) (y : BitVec m) :
    (x ++ y).toNat = x.toNat * 2 ^ m + y.toNat := by
  rw [BitVec.toNat_append, ← Nat.shiftLeft_add_eq_or_of_lt y.isLt, Nat.shiftLeft_eq]

/-- Four concatenated bytes as arithmetic. -/
theorem toNat_four_bytes (a b c d : Byte) :
    (a ++ b ++ c ++ d).toNat = a.toNat * 2 ^ 24 + b.toNat * 2 ^ 16 + c.toNat * 2 ^ 8 + d.toNat := by
  rw [toNat_append_add, toNat_append_add, toNat_append_add]
  omega

/-- The encoder's command word is `OPC·2^24 + STG·2^16 + SEL·2^8` (30_encoding.md R70). -/
theorem commandWord_toNat (o s k : BitVec 8) :
    (commandWord o s k).toNat = o.toNat * 2 ^ 24 + s.toNat * 2 ^ 16 + k.toNat * 2 ^ 8 :=
  (toNat_four_bytes o s k 0#8).trans (Nat.add_zero _)

/-- A word as its four bytes. -/
theorem toNat_of_bytes (w : Word) :
    (w.extractLsb' 24 8).toNat * 2 ^ 24 + (w.extractLsb' 16 8).toNat * 2 ^ 16 + (w.extractLsb' 8 8).toNat * 2 ^ 8 +
      (w.extractLsb' 0 8).toNat = w.toNat := by
  have := w.isLt
  rw [BitVec.extractLsb'_toNat, BitVec.extractLsb'_toNat, BitVec.extractLsb'_toNat, BitVec.extractLsb'_toNat,
    Nat.shiftRight_eq_div_pow, Nat.shiftRight_eq_div_pow, Nat.shiftRight_eq_div_pow, Nat.shiftRight_eq_div_pow]
  omega

/-- A command word as its four fields (30_encoding.md R70). -/
theorem cmd_toNat_fields (cmd : Word) :
    cmd.toNat = (opcField cmd).toNat * 2 ^ 24 + (stgField cmd).toNat * 2 ^ 16 + (selField cmd).toNat * 2 ^ 8 +
      (rsvField cmd).toNat := by
  rw [opcField, stgField, selField, rsvField, toNat_of_bytes]

@[simp] theorem opcField_commandWord (o s k : BitVec 8) : opcField (commandWord o s k) = o := by
  apply BitVec.eq_of_toNat_eq
  have := o.isLt; have := s.isLt; have := k.isLt
  rw [opcField, BitVec.extractLsb'_toNat, commandWord_toNat, Nat.shiftRight_eq_div_pow]
  omega

@[simp] theorem stgField_commandWord (o s k : BitVec 8) : stgField (commandWord o s k) = s := by
  apply BitVec.eq_of_toNat_eq
  have := o.isLt; have := s.isLt; have := k.isLt
  rw [stgField, BitVec.extractLsb'_toNat, commandWord_toNat, Nat.shiftRight_eq_div_pow]
  omega

@[simp] theorem selField_commandWord (o s k : BitVec 8) : selField (commandWord o s k) = k := by
  apply BitVec.eq_of_toNat_eq
  have := o.isLt; have := s.isLt; have := k.isLt
  rw [selField, BitVec.extractLsb'_toNat, commandWord_toNat, Nat.shiftRight_eq_div_pow]
  omega

@[simp] theorem rsvField_commandWord (o s k : BitVec 8) : rsvField (commandWord o s k) = 0 := by
  apply BitVec.eq_of_toNat_eq
  have := o.isLt; have := s.isLt; have := k.isLt
  rw [rsvField, BitVec.extractLsb'_toNat, commandWord_toNat, Nat.shiftRight_eq_div_pow]
  show _ = 0
  omega

/-- A command word whose reserved field is zero is the encoder's word of its fields. -/
theorem commandWord_fields (cmd : Word) (h : rsvField cmd = 0) :
    commandWord (opcField cmd) (stgField cmd) (selField cmd) = cmd := by
  apply BitVec.eq_of_toNat_eq
  have h0 : (rsvField cmd).toNat = 0 := by rw [h]; rfl
  rw [commandWord_toNat, cmd_toNat_fields cmd]
  omega

/-- What the decoder does with a word of the encoder's form, in terms of its row alone. -/
theorem decodeCommand_commandWord (o s k : BitVec 8) (d : Word) :
    decodeCommand (commandWord o s k) d =
      match rowOf o with
      | none => .error .illegalOpcode
      | some r => if (r.usesStg || s == 0) && (r.usesSel || k == 0) then .ok (r.build s k d) else .error .rsvd := by
  cases h : rowOf o <;> simp [decodeCommand, OpRow.fieldsClear, h]

/-- The word a byte-serial transport carries is the word sent (20_memory.md R53). -/
theorem wordOfBytes_bytesOfWord (w : Word) : wordOfBytes (bytesOfWord w) = some w := by
  have h : (w.extractLsb' 24 8 ++ w.extractLsb' 16 8 ++ w.extractLsb' 8 8 ++ w.extractLsb' 0 8).toNat = w.toNat := by
    rw [toNat_four_bytes, toNat_of_bytes]
  exact congrArg some (BitVec.eq_of_toNat_eq h)

end Sys2Proof
end

