-- ==== Sys2Proof/Laws/State.lean ====
section
/-! SUPPORT. The simp set of the state: for each named update, what each field reads after it, true by rfl. A proof uses
these and never unfolds an update. -/

namespace Sys2Proof.Machine

section setOpa
variable (s : State) (v : Word)
@[simp] theorem setOpa_opa : (s.setOpa v).opa = v := rfl
@[simp] theorem setOpa_acc : (s.setOpa v).acc = s.acc := rfl
@[simp] theorem setOpa_shCoef : (s.setOpa v).shCoef = s.shCoef := rfl
@[simp] theorem setOpa_shKind : (s.setOpa v).shKind = s.shKind := rfl
@[simp] theorem setOpa_shNst : (s.setOpa v).shNst = s.shNst := rfl
@[simp] theorem setOpa_acCoef : (s.setOpa v).acCoef = s.acCoef := rfl
@[simp] theorem setOpa_acKind : (s.setOpa v).acKind = s.acKind := rfl
@[simp] theorem setOpa_acNst : (s.setOpa v).acNst = s.acNst := rfl
@[simp] theorem setOpa_st : (s.setOpa v).st = s.st := rfl
@[simp] theorem setOpa_commitPending : (s.setOpa v).commitPending = s.commitPending := rfl
@[simp] theorem setOpa_rstPend : (s.setOpa v).rstPend = s.rstPend := rfl
@[simp] theorem setOpa_err : (s.setOpa v).err = s.err := rfl
@[simp] theorem setOpa_errCode : (s.setOpa v).errCode = s.errCode := rfl
@[simp] theorem setOpa_sat : (s.setOpa v).sat = s.sat := rfl
@[simp] theorem setOpa_dsat : (s.setOpa v).dsat = s.dsat := rfl
@[simp] theorem setOpa_pending : (s.setOpa v).pending = s.pending := rfl
@[simp] theorem setOpa_reply : (s.setOpa v).reply = s.reply := rfl
end setOpa

section setAcc
variable (s : State) (v : BitVec Config.accBits)
@[simp] theorem setAcc_opa : (s.setAcc v).opa = s.opa := rfl
@[simp] theorem setAcc_acc : (s.setAcc v).acc = v := rfl
@[simp] theorem setAcc_shCoef : (s.setAcc v).shCoef = s.shCoef := rfl
@[simp] theorem setAcc_shKind : (s.setAcc v).shKind = s.shKind := rfl
@[simp] theorem setAcc_shNst : (s.setAcc v).shNst = s.shNst := rfl
@[simp] theorem setAcc_acCoef : (s.setAcc v).acCoef = s.acCoef := rfl
@[simp] theorem setAcc_acKind : (s.setAcc v).acKind = s.acKind := rfl
@[simp] theorem setAcc_acNst : (s.setAcc v).acNst = s.acNst := rfl
@[simp] theorem setAcc_st : (s.setAcc v).st = s.st := rfl
@[simp] theorem setAcc_commitPending : (s.setAcc v).commitPending = s.commitPending := rfl
@[simp] theorem setAcc_rstPend : (s.setAcc v).rstPend = s.rstPend := rfl
@[simp] theorem setAcc_err : (s.setAcc v).err = s.err := rfl
@[simp] theorem setAcc_errCode : (s.setAcc v).errCode = s.errCode := rfl
@[simp] theorem setAcc_sat : (s.setAcc v).sat = s.sat := rfl
@[simp] theorem setAcc_dsat : (s.setAcc v).dsat = s.dsat := rfl
@[simp] theorem setAcc_pending : (s.setAcc v).pending = s.pending := rfl
@[simp] theorem setAcc_reply : (s.setAcc v).reply = s.reply := rfl
end setAcc

section setShCoef
variable (s : State) (v : Vector Coeffs Config.maxStages)
@[simp] theorem setShCoef_opa : (s.setShCoef v).opa = s.opa := rfl
@[simp] theorem setShCoef_acc : (s.setShCoef v).acc = s.acc := rfl
@[simp] theorem setShCoef_shCoef : (s.setShCoef v).shCoef = v := rfl
@[simp] theorem setShCoef_shKind : (s.setShCoef v).shKind = s.shKind := rfl
@[simp] theorem setShCoef_shNst : (s.setShCoef v).shNst = s.shNst := rfl
@[simp] theorem setShCoef_acCoef : (s.setShCoef v).acCoef = s.acCoef := rfl
@[simp] theorem setShCoef_acKind : (s.setShCoef v).acKind = s.acKind := rfl
@[simp] theorem setShCoef_acNst : (s.setShCoef v).acNst = s.acNst := rfl
@[simp] theorem setShCoef_st : (s.setShCoef v).st = s.st := rfl
@[simp] theorem setShCoef_commitPending : (s.setShCoef v).commitPending = s.commitPending := rfl
@[simp] theorem setShCoef_rstPend : (s.setShCoef v).rstPend = s.rstPend := rfl
@[simp] theorem setShCoef_err : (s.setShCoef v).err = s.err := rfl
@[simp] theorem setShCoef_errCode : (s.setShCoef v).errCode = s.errCode := rfl
@[simp] theorem setShCoef_sat : (s.setShCoef v).sat = s.sat := rfl
@[simp] theorem setShCoef_dsat : (s.setShCoef v).dsat = s.dsat := rfl
@[simp] theorem setShCoef_pending : (s.setShCoef v).pending = s.pending := rfl
@[simp] theorem setShCoef_reply : (s.setShCoef v).reply = s.reply := rfl
end setShCoef

section setShKind
variable (s : State) (v : Vector Kind Config.maxStages)
@[simp] theorem setShKind_opa : (s.setShKind v).opa = s.opa := rfl
@[simp] theorem setShKind_acc : (s.setShKind v).acc = s.acc := rfl
@[simp] theorem setShKind_shCoef : (s.setShKind v).shCoef = s.shCoef := rfl
@[simp] theorem setShKind_shKind : (s.setShKind v).shKind = v := rfl
@[simp] theorem setShKind_shNst : (s.setShKind v).shNst = s.shNst := rfl
@[simp] theorem setShKind_acCoef : (s.setShKind v).acCoef = s.acCoef := rfl
@[simp] theorem setShKind_acKind : (s.setShKind v).acKind = s.acKind := rfl
@[simp] theorem setShKind_acNst : (s.setShKind v).acNst = s.acNst := rfl
@[simp] theorem setShKind_st : (s.setShKind v).st = s.st := rfl
@[simp] theorem setShKind_commitPending : (s.setShKind v).commitPending = s.commitPending := rfl
@[simp] theorem setShKind_rstPend : (s.setShKind v).rstPend = s.rstPend := rfl
@[simp] theorem setShKind_err : (s.setShKind v).err = s.err := rfl
@[simp] theorem setShKind_errCode : (s.setShKind v).errCode = s.errCode := rfl
@[simp] theorem setShKind_sat : (s.setShKind v).sat = s.sat := rfl
@[simp] theorem setShKind_dsat : (s.setShKind v).dsat = s.dsat := rfl
@[simp] theorem setShKind_pending : (s.setShKind v).pending = s.pending := rfl
@[simp] theorem setShKind_reply : (s.setShKind v).reply = s.reply := rfl
end setShKind

section setShNst
variable (s : State) (v : BitVec 8)
@[simp] theorem setShNst_opa : (s.setShNst v).opa = s.opa := rfl
@[simp] theorem setShNst_acc : (s.setShNst v).acc = s.acc := rfl
@[simp] theorem setShNst_shCoef : (s.setShNst v).shCoef = s.shCoef := rfl
@[simp] theorem setShNst_shKind : (s.setShNst v).shKind = s.shKind := rfl
@[simp] theorem setShNst_shNst : (s.setShNst v).shNst = v := rfl
@[simp] theorem setShNst_acCoef : (s.setShNst v).acCoef = s.acCoef := rfl
@[simp] theorem setShNst_acKind : (s.setShNst v).acKind = s.acKind := rfl
@[simp] theorem setShNst_acNst : (s.setShNst v).acNst = s.acNst := rfl
@[simp] theorem setShNst_st : (s.setShNst v).st = s.st := rfl
@[simp] theorem setShNst_commitPending : (s.setShNst v).commitPending = s.commitPending := rfl
@[simp] theorem setShNst_rstPend : (s.setShNst v).rstPend = s.rstPend := rfl
@[simp] theorem setShNst_err : (s.setShNst v).err = s.err := rfl
@[simp] theorem setShNst_errCode : (s.setShNst v).errCode = s.errCode := rfl
@[simp] theorem setShNst_sat : (s.setShNst v).sat = s.sat := rfl
@[simp] theorem setShNst_dsat : (s.setShNst v).dsat = s.dsat := rfl
@[simp] theorem setShNst_pending : (s.setShNst v).pending = s.pending := rfl
@[simp] theorem setShNst_reply : (s.setShNst v).reply = s.reply := rfl
end setShNst

section setAcCoef
variable (s : State) (v : Vector Coeffs Config.maxStages)
@[simp] theorem setAcCoef_opa : (s.setAcCoef v).opa = s.opa := rfl
@[simp] theorem setAcCoef_acc : (s.setAcCoef v).acc = s.acc := rfl
@[simp] theorem setAcCoef_shCoef : (s.setAcCoef v).shCoef = s.shCoef := rfl
@[simp] theorem setAcCoef_shKind : (s.setAcCoef v).shKind = s.shKind := rfl
@[simp] theorem setAcCoef_shNst : (s.setAcCoef v).shNst = s.shNst := rfl
@[simp] theorem setAcCoef_acCoef : (s.setAcCoef v).acCoef = v := rfl
@[simp] theorem setAcCoef_acKind : (s.setAcCoef v).acKind = s.acKind := rfl
@[simp] theorem setAcCoef_acNst : (s.setAcCoef v).acNst = s.acNst := rfl
@[simp] theorem setAcCoef_st : (s.setAcCoef v).st = s.st := rfl
@[simp] theorem setAcCoef_commitPending : (s.setAcCoef v).commitPending = s.commitPending := rfl
@[simp] theorem setAcCoef_rstPend : (s.setAcCoef v).rstPend = s.rstPend := rfl
@[simp] theorem setAcCoef_err : (s.setAcCoef v).err = s.err := rfl
@[simp] theorem setAcCoef_errCode : (s.setAcCoef v).errCode = s.errCode := rfl
@[simp] theorem setAcCoef_sat : (s.setAcCoef v).sat = s.sat := rfl
@[simp] theorem setAcCoef_dsat : (s.setAcCoef v).dsat = s.dsat := rfl
@[simp] theorem setAcCoef_pending : (s.setAcCoef v).pending = s.pending := rfl
@[simp] theorem setAcCoef_reply : (s.setAcCoef v).reply = s.reply := rfl
end setAcCoef

section setAcKind
variable (s : State) (v : Vector Kind Config.maxStages)
@[simp] theorem setAcKind_opa : (s.setAcKind v).opa = s.opa := rfl
@[simp] theorem setAcKind_acc : (s.setAcKind v).acc = s.acc := rfl
@[simp] theorem setAcKind_shCoef : (s.setAcKind v).shCoef = s.shCoef := rfl
@[simp] theorem setAcKind_shKind : (s.setAcKind v).shKind = s.shKind := rfl
@[simp] theorem setAcKind_shNst : (s.setAcKind v).shNst = s.shNst := rfl
@[simp] theorem setAcKind_acCoef : (s.setAcKind v).acCoef = s.acCoef := rfl
@[simp] theorem setAcKind_acKind : (s.setAcKind v).acKind = v := rfl
@[simp] theorem setAcKind_acNst : (s.setAcKind v).acNst = s.acNst := rfl
@[simp] theorem setAcKind_st : (s.setAcKind v).st = s.st := rfl
@[simp] theorem setAcKind_commitPending : (s.setAcKind v).commitPending = s.commitPending := rfl
@[simp] theorem setAcKind_rstPend : (s.setAcKind v).rstPend = s.rstPend := rfl
@[simp] theorem setAcKind_err : (s.setAcKind v).err = s.err := rfl
@[simp] theorem setAcKind_errCode : (s.setAcKind v).errCode = s.errCode := rfl
@[simp] theorem setAcKind_sat : (s.setAcKind v).sat = s.sat := rfl
@[simp] theorem setAcKind_dsat : (s.setAcKind v).dsat = s.dsat := rfl
@[simp] theorem setAcKind_pending : (s.setAcKind v).pending = s.pending := rfl
@[simp] theorem setAcKind_reply : (s.setAcKind v).reply = s.reply := rfl
end setAcKind

section setAcNst
variable (s : State) (v : BitVec 8)
@[simp] theorem setAcNst_opa : (s.setAcNst v).opa = s.opa := rfl
@[simp] theorem setAcNst_acc : (s.setAcNst v).acc = s.acc := rfl
@[simp] theorem setAcNst_shCoef : (s.setAcNst v).shCoef = s.shCoef := rfl
@[simp] theorem setAcNst_shKind : (s.setAcNst v).shKind = s.shKind := rfl
@[simp] theorem setAcNst_shNst : (s.setAcNst v).shNst = s.shNst := rfl
@[simp] theorem setAcNst_acCoef : (s.setAcNst v).acCoef = s.acCoef := rfl
@[simp] theorem setAcNst_acKind : (s.setAcNst v).acKind = s.acKind := rfl
@[simp] theorem setAcNst_acNst : (s.setAcNst v).acNst = v := rfl
@[simp] theorem setAcNst_st : (s.setAcNst v).st = s.st := rfl
@[simp] theorem setAcNst_commitPending : (s.setAcNst v).commitPending = s.commitPending := rfl
@[simp] theorem setAcNst_rstPend : (s.setAcNst v).rstPend = s.rstPend := rfl
@[simp] theorem setAcNst_err : (s.setAcNst v).err = s.err := rfl
@[simp] theorem setAcNst_errCode : (s.setAcNst v).errCode = s.errCode := rfl
@[simp] theorem setAcNst_sat : (s.setAcNst v).sat = s.sat := rfl
@[simp] theorem setAcNst_dsat : (s.setAcNst v).dsat = s.dsat := rfl
@[simp] theorem setAcNst_pending : (s.setAcNst v).pending = s.pending := rfl
@[simp] theorem setAcNst_reply : (s.setAcNst v).reply = s.reply := rfl
end setAcNst

section setSt
variable (s : State) (v : Vector StageState Config.maxStages)
@[simp] theorem setSt_opa : (s.setSt v).opa = s.opa := rfl
@[simp] theorem setSt_acc : (s.setSt v).acc = s.acc := rfl
@[simp] theorem setSt_shCoef : (s.setSt v).shCoef = s.shCoef := rfl
@[simp] theorem setSt_shKind : (s.setSt v).shKind = s.shKind := rfl
@[simp] theorem setSt_shNst : (s.setSt v).shNst = s.shNst := rfl
@[simp] theorem setSt_acCoef : (s.setSt v).acCoef = s.acCoef := rfl
@[simp] theorem setSt_acKind : (s.setSt v).acKind = s.acKind := rfl
@[simp] theorem setSt_acNst : (s.setSt v).acNst = s.acNst := rfl
@[simp] theorem setSt_st : (s.setSt v).st = v := rfl
@[simp] theorem setSt_commitPending : (s.setSt v).commitPending = s.commitPending := rfl
@[simp] theorem setSt_rstPend : (s.setSt v).rstPend = s.rstPend := rfl
@[simp] theorem setSt_err : (s.setSt v).err = s.err := rfl
@[simp] theorem setSt_errCode : (s.setSt v).errCode = s.errCode := rfl
@[simp] theorem setSt_sat : (s.setSt v).sat = s.sat := rfl
@[simp] theorem setSt_dsat : (s.setSt v).dsat = s.dsat := rfl
@[simp] theorem setSt_pending : (s.setSt v).pending = s.pending := rfl
@[simp] theorem setSt_reply : (s.setSt v).reply = s.reply := rfl
end setSt

section setCommitPending
variable (s : State) (v : Bool)
@[simp] theorem setCommitPending_opa : (s.setCommitPending v).opa = s.opa := rfl
@[simp] theorem setCommitPending_acc : (s.setCommitPending v).acc = s.acc := rfl
@[simp] theorem setCommitPending_shCoef : (s.setCommitPending v).shCoef = s.shCoef := rfl
@[simp] theorem setCommitPending_shKind : (s.setCommitPending v).shKind = s.shKind := rfl
@[simp] theorem setCommitPending_shNst : (s.setCommitPending v).shNst = s.shNst := rfl
@[simp] theorem setCommitPending_acCoef : (s.setCommitPending v).acCoef = s.acCoef := rfl
@[simp] theorem setCommitPending_acKind : (s.setCommitPending v).acKind = s.acKind := rfl
@[simp] theorem setCommitPending_acNst : (s.setCommitPending v).acNst = s.acNst := rfl
@[simp] theorem setCommitPending_st : (s.setCommitPending v).st = s.st := rfl
@[simp] theorem setCommitPending_commitPending : (s.setCommitPending v).commitPending = v := rfl
@[simp] theorem setCommitPending_rstPend : (s.setCommitPending v).rstPend = s.rstPend := rfl
@[simp] theorem setCommitPending_err : (s.setCommitPending v).err = s.err := rfl
@[simp] theorem setCommitPending_errCode : (s.setCommitPending v).errCode = s.errCode := rfl
@[simp] theorem setCommitPending_sat : (s.setCommitPending v).sat = s.sat := rfl
@[simp] theorem setCommitPending_dsat : (s.setCommitPending v).dsat = s.dsat := rfl
@[simp] theorem setCommitPending_pending : (s.setCommitPending v).pending = s.pending := rfl
@[simp] theorem setCommitPending_reply : (s.setCommitPending v).reply = s.reply := rfl
end setCommitPending

section setRstPend
variable (s : State) (v : Vector Bool Config.maxStages)
@[simp] theorem setRstPend_opa : (s.setRstPend v).opa = s.opa := rfl
@[simp] theorem setRstPend_acc : (s.setRstPend v).acc = s.acc := rfl
@[simp] theorem setRstPend_shCoef : (s.setRstPend v).shCoef = s.shCoef := rfl
@[simp] theorem setRstPend_shKind : (s.setRstPend v).shKind = s.shKind := rfl
@[simp] theorem setRstPend_shNst : (s.setRstPend v).shNst = s.shNst := rfl
@[simp] theorem setRstPend_acCoef : (s.setRstPend v).acCoef = s.acCoef := rfl
@[simp] theorem setRstPend_acKind : (s.setRstPend v).acKind = s.acKind := rfl
@[simp] theorem setRstPend_acNst : (s.setRstPend v).acNst = s.acNst := rfl
@[simp] theorem setRstPend_st : (s.setRstPend v).st = s.st := rfl
@[simp] theorem setRstPend_commitPending : (s.setRstPend v).commitPending = s.commitPending := rfl
@[simp] theorem setRstPend_rstPend : (s.setRstPend v).rstPend = v := rfl
@[simp] theorem setRstPend_err : (s.setRstPend v).err = s.err := rfl
@[simp] theorem setRstPend_errCode : (s.setRstPend v).errCode = s.errCode := rfl
@[simp] theorem setRstPend_sat : (s.setRstPend v).sat = s.sat := rfl
@[simp] theorem setRstPend_dsat : (s.setRstPend v).dsat = s.dsat := rfl
@[simp] theorem setRstPend_pending : (s.setRstPend v).pending = s.pending := rfl
@[simp] theorem setRstPend_reply : (s.setRstPend v).reply = s.reply := rfl
end setRstPend

section setErr
variable (s : State) (v : Bool)
@[simp] theorem setErr_opa : (s.setErr v).opa = s.opa := rfl
@[simp] theorem setErr_acc : (s.setErr v).acc = s.acc := rfl
@[simp] theorem setErr_shCoef : (s.setErr v).shCoef = s.shCoef := rfl
@[simp] theorem setErr_shKind : (s.setErr v).shKind = s.shKind := rfl
@[simp] theorem setErr_shNst : (s.setErr v).shNst = s.shNst := rfl
@[simp] theorem setErr_acCoef : (s.setErr v).acCoef = s.acCoef := rfl
@[simp] theorem setErr_acKind : (s.setErr v).acKind = s.acKind := rfl
@[simp] theorem setErr_acNst : (s.setErr v).acNst = s.acNst := rfl
@[simp] theorem setErr_st : (s.setErr v).st = s.st := rfl
@[simp] theorem setErr_commitPending : (s.setErr v).commitPending = s.commitPending := rfl
@[simp] theorem setErr_rstPend : (s.setErr v).rstPend = s.rstPend := rfl
@[simp] theorem setErr_err : (s.setErr v).err = v := rfl
@[simp] theorem setErr_errCode : (s.setErr v).errCode = s.errCode := rfl
@[simp] theorem setErr_sat : (s.setErr v).sat = s.sat := rfl
@[simp] theorem setErr_dsat : (s.setErr v).dsat = s.dsat := rfl
@[simp] theorem setErr_pending : (s.setErr v).pending = s.pending := rfl
@[simp] theorem setErr_reply : (s.setErr v).reply = s.reply := rfl
end setErr

section setErrCode
variable (s : State) (v : BitVec 8)
@[simp] theorem setErrCode_opa : (s.setErrCode v).opa = s.opa := rfl
@[simp] theorem setErrCode_acc : (s.setErrCode v).acc = s.acc := rfl
@[simp] theorem setErrCode_shCoef : (s.setErrCode v).shCoef = s.shCoef := rfl
@[simp] theorem setErrCode_shKind : (s.setErrCode v).shKind = s.shKind := rfl
@[simp] theorem setErrCode_shNst : (s.setErrCode v).shNst = s.shNst := rfl
@[simp] theorem setErrCode_acCoef : (s.setErrCode v).acCoef = s.acCoef := rfl
@[simp] theorem setErrCode_acKind : (s.setErrCode v).acKind = s.acKind := rfl
@[simp] theorem setErrCode_acNst : (s.setErrCode v).acNst = s.acNst := rfl
@[simp] theorem setErrCode_st : (s.setErrCode v).st = s.st := rfl
@[simp] theorem setErrCode_commitPending : (s.setErrCode v).commitPending = s.commitPending := rfl
@[simp] theorem setErrCode_rstPend : (s.setErrCode v).rstPend = s.rstPend := rfl
@[simp] theorem setErrCode_err : (s.setErrCode v).err = s.err := rfl
@[simp] theorem setErrCode_errCode : (s.setErrCode v).errCode = v := rfl
@[simp] theorem setErrCode_sat : (s.setErrCode v).sat = s.sat := rfl
@[simp] theorem setErrCode_dsat : (s.setErrCode v).dsat = s.dsat := rfl
@[simp] theorem setErrCode_pending : (s.setErrCode v).pending = s.pending := rfl
@[simp] theorem setErrCode_reply : (s.setErrCode v).reply = s.reply := rfl
end setErrCode

section setSat
variable (s : State) (v : Bool)
@[simp] theorem setSat_opa : (s.setSat v).opa = s.opa := rfl
@[simp] theorem setSat_acc : (s.setSat v).acc = s.acc := rfl
@[simp] theorem setSat_shCoef : (s.setSat v).shCoef = s.shCoef := rfl
@[simp] theorem setSat_shKind : (s.setSat v).shKind = s.shKind := rfl
@[simp] theorem setSat_shNst : (s.setSat v).shNst = s.shNst := rfl
@[simp] theorem setSat_acCoef : (s.setSat v).acCoef = s.acCoef := rfl
@[simp] theorem setSat_acKind : (s.setSat v).acKind = s.acKind := rfl
@[simp] theorem setSat_acNst : (s.setSat v).acNst = s.acNst := rfl
@[simp] theorem setSat_st : (s.setSat v).st = s.st := rfl
@[simp] theorem setSat_commitPending : (s.setSat v).commitPending = s.commitPending := rfl
@[simp] theorem setSat_rstPend : (s.setSat v).rstPend = s.rstPend := rfl
@[simp] theorem setSat_err : (s.setSat v).err = s.err := rfl
@[simp] theorem setSat_errCode : (s.setSat v).errCode = s.errCode := rfl
@[simp] theorem setSat_sat : (s.setSat v).sat = v := rfl
@[simp] theorem setSat_dsat : (s.setSat v).dsat = s.dsat := rfl
@[simp] theorem setSat_pending : (s.setSat v).pending = s.pending := rfl
@[simp] theorem setSat_reply : (s.setSat v).reply = s.reply := rfl
end setSat

section setDsat
variable (s : State) (v : Bool)
@[simp] theorem setDsat_opa : (s.setDsat v).opa = s.opa := rfl
@[simp] theorem setDsat_acc : (s.setDsat v).acc = s.acc := rfl
@[simp] theorem setDsat_shCoef : (s.setDsat v).shCoef = s.shCoef := rfl
@[simp] theorem setDsat_shKind : (s.setDsat v).shKind = s.shKind := rfl
@[simp] theorem setDsat_shNst : (s.setDsat v).shNst = s.shNst := rfl
@[simp] theorem setDsat_acCoef : (s.setDsat v).acCoef = s.acCoef := rfl
@[simp] theorem setDsat_acKind : (s.setDsat v).acKind = s.acKind := rfl
@[simp] theorem setDsat_acNst : (s.setDsat v).acNst = s.acNst := rfl
@[simp] theorem setDsat_st : (s.setDsat v).st = s.st := rfl
@[simp] theorem setDsat_commitPending : (s.setDsat v).commitPending = s.commitPending := rfl
@[simp] theorem setDsat_rstPend : (s.setDsat v).rstPend = s.rstPend := rfl
@[simp] theorem setDsat_err : (s.setDsat v).err = s.err := rfl
@[simp] theorem setDsat_errCode : (s.setDsat v).errCode = s.errCode := rfl
@[simp] theorem setDsat_sat : (s.setDsat v).sat = s.sat := rfl
@[simp] theorem setDsat_dsat : (s.setDsat v).dsat = v := rfl
@[simp] theorem setDsat_pending : (s.setDsat v).pending = s.pending := rfl
@[simp] theorem setDsat_reply : (s.setDsat v).reply = s.reply := rfl
end setDsat

section setPending
variable (s : State) (v : List Event)
@[simp] theorem setPending_opa : (s.setPending v).opa = s.opa := rfl
@[simp] theorem setPending_acc : (s.setPending v).acc = s.acc := rfl
@[simp] theorem setPending_shCoef : (s.setPending v).shCoef = s.shCoef := rfl
@[simp] theorem setPending_shKind : (s.setPending v).shKind = s.shKind := rfl
@[simp] theorem setPending_shNst : (s.setPending v).shNst = s.shNst := rfl
@[simp] theorem setPending_acCoef : (s.setPending v).acCoef = s.acCoef := rfl
@[simp] theorem setPending_acKind : (s.setPending v).acKind = s.acKind := rfl
@[simp] theorem setPending_acNst : (s.setPending v).acNst = s.acNst := rfl
@[simp] theorem setPending_st : (s.setPending v).st = s.st := rfl
@[simp] theorem setPending_commitPending : (s.setPending v).commitPending = s.commitPending := rfl
@[simp] theorem setPending_rstPend : (s.setPending v).rstPend = s.rstPend := rfl
@[simp] theorem setPending_err : (s.setPending v).err = s.err := rfl
@[simp] theorem setPending_errCode : (s.setPending v).errCode = s.errCode := rfl
@[simp] theorem setPending_sat : (s.setPending v).sat = s.sat := rfl
@[simp] theorem setPending_dsat : (s.setPending v).dsat = s.dsat := rfl
@[simp] theorem setPending_pending : (s.setPending v).pending = v := rfl
@[simp] theorem setPending_reply : (s.setPending v).reply = s.reply := rfl
end setPending

section setReply
variable (s : State) (v : Reply)
@[simp] theorem setReply_opa : (s.setReply v).opa = s.opa := rfl
@[simp] theorem setReply_acc : (s.setReply v).acc = s.acc := rfl
@[simp] theorem setReply_shCoef : (s.setReply v).shCoef = s.shCoef := rfl
@[simp] theorem setReply_shKind : (s.setReply v).shKind = s.shKind := rfl
@[simp] theorem setReply_shNst : (s.setReply v).shNst = s.shNst := rfl
@[simp] theorem setReply_acCoef : (s.setReply v).acCoef = s.acCoef := rfl
@[simp] theorem setReply_acKind : (s.setReply v).acKind = s.acKind := rfl
@[simp] theorem setReply_acNst : (s.setReply v).acNst = s.acNst := rfl
@[simp] theorem setReply_st : (s.setReply v).st = s.st := rfl
@[simp] theorem setReply_commitPending : (s.setReply v).commitPending = s.commitPending := rfl
@[simp] theorem setReply_rstPend : (s.setReply v).rstPend = s.rstPend := rfl
@[simp] theorem setReply_err : (s.setReply v).err = s.err := rfl
@[simp] theorem setReply_errCode : (s.setReply v).errCode = s.errCode := rfl
@[simp] theorem setReply_sat : (s.setReply v).sat = s.sat := rfl
@[simp] theorem setReply_dsat : (s.setReply v).dsat = s.dsat := rfl
@[simp] theorem setReply_pending : (s.setReply v).pending = s.pending := rfl
@[simp] theorem setReply_reply : (s.setReply v).reply = v := rfl
end setReply

section withResult
variable (s : State) (w : Word)
@[simp] theorem withResult_opa : (s.withResult w).opa = s.opa := rfl
@[simp] theorem withResult_acc : (s.withResult w).acc = s.acc := rfl
@[simp] theorem withResult_shCoef : (s.withResult w).shCoef = s.shCoef := rfl
@[simp] theorem withResult_shKind : (s.withResult w).shKind = s.shKind := rfl
@[simp] theorem withResult_shNst : (s.withResult w).shNst = s.shNst := rfl
@[simp] theorem withResult_acCoef : (s.withResult w).acCoef = s.acCoef := rfl
@[simp] theorem withResult_acKind : (s.withResult w).acKind = s.acKind := rfl
@[simp] theorem withResult_acNst : (s.withResult w).acNst = s.acNst := rfl
@[simp] theorem withResult_st : (s.withResult w).st = s.st := rfl
@[simp] theorem withResult_commitPending : (s.withResult w).commitPending = s.commitPending := rfl
@[simp] theorem withResult_rstPend : (s.withResult w).rstPend = s.rstPend := rfl
@[simp] theorem withResult_err : (s.withResult w).err = s.err := rfl
@[simp] theorem withResult_errCode : (s.withResult w).errCode = s.errCode := rfl
@[simp] theorem withResult_sat : (s.withResult w).sat = s.sat := rfl
@[simp] theorem withResult_dsat : (s.withResult w).dsat = s.dsat := rfl
@[simp] theorem withResult_pending : (s.withResult w).pending = s.pending := rfl
@[simp] theorem withResult_reply : (s.withResult w).reply = .result w := rfl
end withResult

section withOutputs
variable (s : State) (l r : Word)
@[simp] theorem withOutputs_opa : (s.withOutputs l r).opa = s.opa := rfl
@[simp] theorem withOutputs_acc : (s.withOutputs l r).acc = s.acc := rfl
@[simp] theorem withOutputs_shCoef : (s.withOutputs l r).shCoef = s.shCoef := rfl
@[simp] theorem withOutputs_shKind : (s.withOutputs l r).shKind = s.shKind := rfl
@[simp] theorem withOutputs_shNst : (s.withOutputs l r).shNst = s.shNst := rfl
@[simp] theorem withOutputs_acCoef : (s.withOutputs l r).acCoef = s.acCoef := rfl
@[simp] theorem withOutputs_acKind : (s.withOutputs l r).acKind = s.acKind := rfl
@[simp] theorem withOutputs_acNst : (s.withOutputs l r).acNst = s.acNst := rfl
@[simp] theorem withOutputs_st : (s.withOutputs l r).st = s.st := rfl
@[simp] theorem withOutputs_commitPending : (s.withOutputs l r).commitPending = s.commitPending := rfl
@[simp] theorem withOutputs_rstPend : (s.withOutputs l r).rstPend = s.rstPend := rfl
@[simp] theorem withOutputs_err : (s.withOutputs l r).err = s.err := rfl
@[simp] theorem withOutputs_errCode : (s.withOutputs l r).errCode = s.errCode := rfl
@[simp] theorem withOutputs_sat : (s.withOutputs l r).sat = s.sat := rfl
@[simp] theorem withOutputs_dsat : (s.withOutputs l r).dsat = s.dsat := rfl
@[simp] theorem withOutputs_pending : (s.withOutputs l r).pending = s.pending := rfl
@[simp] theorem withOutputs_reply : (s.withOutputs l r).reply = .outputs l r := rfl
end withOutputs

section orSat
variable (s : State) (b : Bool)
@[simp] theorem orSat_opa : (s.orSat b).opa = s.opa := rfl
@[simp] theorem orSat_acc : (s.orSat b).acc = s.acc := rfl
@[simp] theorem orSat_shCoef : (s.orSat b).shCoef = s.shCoef := rfl
@[simp] theorem orSat_shKind : (s.orSat b).shKind = s.shKind := rfl
@[simp] theorem orSat_shNst : (s.orSat b).shNst = s.shNst := rfl
@[simp] theorem orSat_acCoef : (s.orSat b).acCoef = s.acCoef := rfl
@[simp] theorem orSat_acKind : (s.orSat b).acKind = s.acKind := rfl
@[simp] theorem orSat_acNst : (s.orSat b).acNst = s.acNst := rfl
@[simp] theorem orSat_st : (s.orSat b).st = s.st := rfl
@[simp] theorem orSat_commitPending : (s.orSat b).commitPending = s.commitPending := rfl
@[simp] theorem orSat_rstPend : (s.orSat b).rstPend = s.rstPend := rfl
@[simp] theorem orSat_err : (s.orSat b).err = s.err := rfl
@[simp] theorem orSat_errCode : (s.orSat b).errCode = s.errCode := rfl
@[simp] theorem orSat_sat : (s.orSat b).sat = (s.sat || b) := rfl
@[simp] theorem orSat_dsat : (s.orSat b).dsat = s.dsat := rfl
@[simp] theorem orSat_pending : (s.orSat b).pending = s.pending := rfl
@[simp] theorem orSat_reply : (s.orSat b).reply = s.reply := rfl
end orSat

section orDsat
variable (s : State) (b : Bool)
@[simp] theorem orDsat_opa : (s.orDsat b).opa = s.opa := rfl
@[simp] theorem orDsat_acc : (s.orDsat b).acc = s.acc := rfl
@[simp] theorem orDsat_shCoef : (s.orDsat b).shCoef = s.shCoef := rfl
@[simp] theorem orDsat_shKind : (s.orDsat b).shKind = s.shKind := rfl
@[simp] theorem orDsat_shNst : (s.orDsat b).shNst = s.shNst := rfl
@[simp] theorem orDsat_acCoef : (s.orDsat b).acCoef = s.acCoef := rfl
@[simp] theorem orDsat_acKind : (s.orDsat b).acKind = s.acKind := rfl
@[simp] theorem orDsat_acNst : (s.orDsat b).acNst = s.acNst := rfl
@[simp] theorem orDsat_st : (s.orDsat b).st = s.st := rfl
@[simp] theorem orDsat_commitPending : (s.orDsat b).commitPending = s.commitPending := rfl
@[simp] theorem orDsat_rstPend : (s.orDsat b).rstPend = s.rstPend := rfl
@[simp] theorem orDsat_err : (s.orDsat b).err = s.err := rfl
@[simp] theorem orDsat_errCode : (s.orDsat b).errCode = s.errCode := rfl
@[simp] theorem orDsat_sat : (s.orDsat b).sat = s.sat := rfl
@[simp] theorem orDsat_dsat : (s.orDsat b).dsat = (s.dsat || b) := rfl
@[simp] theorem orDsat_pending : (s.orDsat b).pending = s.pending := rfl
@[simp] theorem orDsat_reply : (s.orDsat b).reply = s.reply := rfl
end orDsat

section clearSticky
variable (s : State)
@[simp] theorem clearSticky_opa : (clearSticky s).opa = s.opa := rfl
@[simp] theorem clearSticky_acc : (clearSticky s).acc = s.acc := rfl
@[simp] theorem clearSticky_shCoef : (clearSticky s).shCoef = s.shCoef := rfl
@[simp] theorem clearSticky_shKind : (clearSticky s).shKind = s.shKind := rfl
@[simp] theorem clearSticky_shNst : (clearSticky s).shNst = s.shNst := rfl
@[simp] theorem clearSticky_acCoef : (clearSticky s).acCoef = s.acCoef := rfl
@[simp] theorem clearSticky_acKind : (clearSticky s).acKind = s.acKind := rfl
@[simp] theorem clearSticky_acNst : (clearSticky s).acNst = s.acNst := rfl
@[simp] theorem clearSticky_st : (clearSticky s).st = s.st := rfl
@[simp] theorem clearSticky_commitPending : (clearSticky s).commitPending = s.commitPending := rfl
@[simp] theorem clearSticky_rstPend : (clearSticky s).rstPend = s.rstPend := rfl
@[simp] theorem clearSticky_err : (clearSticky s).err = false := rfl
@[simp] theorem clearSticky_errCode : (clearSticky s).errCode = 0 := rfl
@[simp] theorem clearSticky_sat : (clearSticky s).sat = false := rfl
@[simp] theorem clearSticky_dsat : (clearSticky s).dsat = false := rfl
@[simp] theorem clearSticky_pending : (clearSticky s).pending = s.pending := rfl
@[simp] theorem clearSticky_reply : (clearSticky s).reply = s.reply := rfl
end clearSticky

section refusedWith
variable (c : BitVec 8) (s : State)
@[simp] theorem refusedWith_opa : (refusedWith c s).opa = s.opa := rfl
@[simp] theorem refusedWith_acc : (refusedWith c s).acc = s.acc := rfl
@[simp] theorem refusedWith_shCoef : (refusedWith c s).shCoef = s.shCoef := rfl
@[simp] theorem refusedWith_shKind : (refusedWith c s).shKind = s.shKind := rfl
@[simp] theorem refusedWith_shNst : (refusedWith c s).shNst = s.shNst := rfl
@[simp] theorem refusedWith_acCoef : (refusedWith c s).acCoef = s.acCoef := rfl
@[simp] theorem refusedWith_acKind : (refusedWith c s).acKind = s.acKind := rfl
@[simp] theorem refusedWith_acNst : (refusedWith c s).acNst = s.acNst := rfl
@[simp] theorem refusedWith_st : (refusedWith c s).st = s.st := rfl
@[simp] theorem refusedWith_commitPending : (refusedWith c s).commitPending = s.commitPending := rfl
@[simp] theorem refusedWith_rstPend : (refusedWith c s).rstPend = s.rstPend := rfl
@[simp] theorem refusedWith_err : (refusedWith c s).err = true := rfl
@[simp] theorem refusedWith_errCode : (refusedWith c s).errCode = if s.err then s.errCode else c := rfl
@[simp] theorem refusedWith_sat : (refusedWith c s).sat = s.sat := rfl
@[simp] theorem refusedWith_dsat : (refusedWith c s).dsat = s.dsat := rfl
@[simp] theorem refusedWith_pending : (refusedWith c s).pending = s.pending := rfl
@[simp] theorem refusedWith_reply : (refusedWith c s).reply = .result 0 := rfl
end refusedWith

section offer
variable (s : State) (t : Transaction)
@[simp] theorem offer_opa : (s.offer t).opa = s.opa := rfl
@[simp] theorem offer_acc : (s.offer t).acc = s.acc := rfl
@[simp] theorem offer_shCoef : (s.offer t).shCoef = s.shCoef := rfl
@[simp] theorem offer_shKind : (s.offer t).shKind = s.shKind := rfl
@[simp] theorem offer_shNst : (s.offer t).shNst = s.shNst := rfl
@[simp] theorem offer_acCoef : (s.offer t).acCoef = s.acCoef := rfl
@[simp] theorem offer_acKind : (s.offer t).acKind = s.acKind := rfl
@[simp] theorem offer_acNst : (s.offer t).acNst = s.acNst := rfl
@[simp] theorem offer_st : (s.offer t).st = s.st := rfl
@[simp] theorem offer_commitPending : (s.offer t).commitPending = s.commitPending := rfl
@[simp] theorem offer_rstPend : (s.offer t).rstPend = s.rstPend := rfl
@[simp] theorem offer_err : (s.offer t).err = s.err := rfl
@[simp] theorem offer_errCode : (s.offer t).errCode = s.errCode := rfl
@[simp] theorem offer_sat : (s.offer t).sat = s.sat := rfl
@[simp] theorem offer_dsat : (s.offer t).dsat = s.dsat := rfl
@[simp] theorem offer_pending : (s.offer t).pending = .transaction t :: s.pending := rfl
@[simp] theorem offer_reply : (s.offer t).reply = s.reply := rfl
end offer

/-- Command refusal, said once (60_exceptions.md R270). -/
@[simp] theorem refuse_eq (e : CmdError) (s : State) : refuse e s = refusedWith e.code s := by
  cases h : s.err <;> simp [refuse, refusedWith, h, State.setErr, State.setErrCode, State.withResult, State.setReply]

end Sys2Proof.Machine
end

