-- ==== Sys2Proof/Laws/FixedPoint.lean ====
section
/-! SUPPORT. The arithmetic, said once: what saturation to a width does to an integer (00_scope.md R9), and what the
multiplier, the accumulator and the conversions are in those terms (40_mac.md R100 to R105). -/

namespace Sys2Proof.Machine

theorem two_pow_pred_pos (w : Nat) : (0 : Int) < 2 ^ (w - 1) := Int.pow_pos (by decide)

theorem clampTo_of_mem {w : Nat} {n : Int} (lo : -(2 ^ (w - 1)) ≤ n) (hi : n ≤ 2 ^ (w - 1) - 1) : clampTo w n = n := by
  rw [clampTo, min_eq_left hi, max_eq_right lo]

theorem clampTo_of_gt {w : Nat} {n : Int} (h : 2 ^ (w - 1) - 1 < n) : clampTo w n = 2 ^ (w - 1) - 1 := by
  have := two_pow_pred_pos w
  rw [clampTo, min_eq_right (le_of_lt h), max_eq_right (by omega)]

theorem clampTo_of_lt {w : Nat} {n : Int} (h : n < -(2 ^ (w - 1))) : clampTo w n = -(2 ^ (w - 1)) := by
  rw [clampTo, max_eq_left (le_trans (min_le_left _ _) (le_of_lt h))]

theorem clampTo_mem (w : Nat) (n : Int) : -(2 ^ (w - 1)) ≤ clampTo w n ∧ clampTo w n ≤ 2 ^ (w - 1) - 1 := by
  have := two_pow_pred_pos w
  exact ⟨le_max_left _ _, max_le (by omega) (min_le_right _ _)⟩

/-- `Sat_N`, said once (R9): the clamped value, and whether clamping changed it. -/
theorem satTo_eq (w : Nat) (n : Int) : satTo w n = ⟨BitVec.ofInt w (clampTo w n), decide (clampTo w n ≠ n)⟩ := by
  have hp := two_pow_pred_pos w
  rw [satTo]
  split
  · rename_i h
    rw [clampTo_of_gt h, decide_eq_true (by omega)]
  · split
    · rename_i h
      rw [clampTo_of_lt h, decide_eq_true (by omega)]
    · rename_i h1 h2
      rw [clampTo_of_mem (by omega) (by omega), decide_eq_false (by simp)]

/-- An integer in the range of a word is the value of its word. -/
theorem toInt_ofInt_of_mem {w : Nat} (hw : 0 < w) {n : Int} (lo : -(2 ^ (w - 1)) ≤ n) (hi : n ≤ 2 ^ (w - 1) - 1) :
    (BitVec.ofInt w n).toInt = n := by
  obtain ⟨k, rfl⟩ : ∃ k, w = k + 1 := ⟨w - 1, by omega⟩
  have e : ((2 ^ (k + 1) : Nat) : Int) = 2 * 2 ^ k := by push_cast; ring
  rw [BitVec.toInt_ofInt, Int.bmod_eq_of_le] <;> simp only [Nat.add_sub_cancel] at lo hi <;> omega

theorem satTo_word_toInt {w : Nat} (hw : 0 < w) (n : Int) : (satTo w n).word.toInt = clampTo w n := by
  rw [satTo_eq]
  exact toInt_ofInt_of_mem hw (clampTo_mem w n).1 (clampTo_mem w n).2

@[simp] theorem qMul_word_toInt (P : Config.Params) (a b : Word) :
    (qMul P a b).word.toInt = clampTo 32 (reduceProduct P.mulRound (a.toInt * b.toInt)) :=
  satTo_word_toInt (by decide) _

theorem qMul_sat (P : Config.Params) (a b : Word) :
    (qMul P a b).sat = decide (clampTo 32 (reduceProduct P.mulRound (a.toInt * b.toInt)) ≠
      reduceProduct P.mulRound (a.toInt * b.toInt)) := by
  rw [qMul, satTo_eq]

@[simp] theorem accAdd_word_toInt (acc : BitVec Config.accBits) (d : Int) :
    (accAdd acc d).word.toInt = clampTo 40 (acc.toInt + d) :=
  satTo_word_toInt (by decide) _

@[simp] theorem accRead_word_toInt (acc : BitVec Config.accBits) : (accRead acc).word.toInt = clampTo 32 acc.toInt :=
  satTo_word_toInt (by decide) _

@[simp] theorem toI16_word_toInt (v : Word) : (toI16 v).word.toInt = clampTo 16 (rhaDiv v.toInt 13) :=
  satTo_word_toInt (by decide) _

/-- The reduction of a zero product is zero under every MUL_ROUND (R101). -/
@[simp] theorem reduceProduct_zero (m : Config.MulRound) : reduceProduct m 0 = 0 := by cases m <;> decide

end Sys2Proof.Machine
end

