-- ==== Sys2Proof/Laws/Ops.lean ====
section
/-! SUPPORT. The shared operations of a command, said once each: the command's outcome, the operand forms, the checks, and
the list of stages below a chain length. -/

namespace Sys2Proof.Machine

/-! ### The outcome of a command (60_exceptions.md R270) -/

@[simp] theorem runCommand_ok (s t : State) (w : Word) : runCommand s (.ok (t, w)) = .next (t.withResult w) := rfl

@[simp] theorem runCommand_error (s : State) (e : CmdError) : runCommand s (.error e) = .next (refusedWith e.code s) := by
  rw [runCommand, refuse_eq]

/-- A command answers a next state: that of its body, or that of its refusal. -/
theorem runCommand_cases {s t : State} {body : Except CmdError (State × Word)} (h : runCommand s body = .next t) :
    (∃ u w, body = .ok (u, w) ∧ t = u.withResult w) ∨ (∃ e, body = .error e ∧ t = refusedWith e.code s) := by
  rcases body with e | ⟨u, w⟩
  · exact .inr ⟨e, rfl, by simpa using h.symm⟩
  · exact .inl ⟨u, w, rfl, by simpa using h.symm⟩

@[simp] theorem ok_bind_eq {α β : Type} (a : α) (f : α → Except CmdError β) : (Except.ok a >>= f) = f a := rfl

@[simp] theorem error_bind_eq {α β : Type} (e : CmdError) (f : α → Except CmdError β) :
    ((Except.error e : Except CmdError α) >>= f) = .error e := rfl

@[simp] theorem pure_eq_ok {α : Type} (a : α) : (pure a : Except CmdError α) = .ok a := rfl

/-- A checked computation that succeeds passed its check and then succeeded. -/
theorem bind_eq_ok {α β : Type} {x : Except CmdError α} {f : α → Except CmdError β} {b : β}
    (h : (x >>= f) = .ok b) : ∃ a, x = .ok a ∧ f a = .ok b := by
  rcases x with e | a
  · simp at h
  · exact ⟨a, rfl, h⟩

/-! ### Operand forms (30_encoding.md R71) -/

theorem stageOperand_ok {stg : BitVec 8} {i : StageIdx} (h : stg.toNat = i.val) : stageOperand stg = .ok i := by
  have := i.isLt
  rw [stageOperand, dif_pos (by omega)]
  exact congrArg _ (Fin.ext h)

theorem stageOperand_error {stg : BitVec 8} (h : 20 ≤ stg.toNat) : stageOperand stg = .error .badStage := by
  rw [stageOperand, dif_neg (by simpa using h)]

/-- A stage operand is a slot of that number, or BAD_STAGE. -/
theorem stageOperand_cases (stg : BitVec 8) :
    (∃ i : StageIdx, stg.toNat = i.val ∧ stageOperand stg = .ok i) ∨ (20 ≤ stg.toNat ∧ stageOperand stg = .error .badStage) := by
  by_cases h : stg.toNat < 20
  · exact .inl ⟨⟨stg.toNat, h⟩, rfl, stageOperand_ok rfl⟩
  · exact .inr ⟨by omega, stageOperand_error (by omega)⟩

theorem coefOperand_ok {sel : BitVec 8} {k : Fin 6} (h : sel.toNat = k.val) : coefOperand sel = .ok k := by
  have := k.isLt
  rw [coefOperand, dif_pos (by omega)]
  exact congrArg _ (Fin.ext h)

theorem coefOperand_error {sel : BitVec 8} (h : 5 < sel.toNat) : coefOperand sel = .error .badSelect := by
  rw [coefOperand, dif_neg (by omega)]

/-- A coefficient selector is an index 0..5, or BAD_SELECT. -/
theorem coefOperand_cases (sel : BitVec 8) :
    (∃ k : Fin 6, sel.toNat = k.val ∧ coefOperand sel = .ok k) ∨ (5 < sel.toNat ∧ coefOperand sel = .error .badSelect) := by
  by_cases h : sel.toNat < 6
  · exact .inl ⟨⟨sel.toNat, h⟩, rfl, coefOperand_ok rfl⟩
  · exact .inr ⟨by omega, coefOperand_error (by omega)⟩

theorem stateOperand_left {sel : BitVec 8} {k : Fin 4} (h : sel.toNat = k.val) : stateOperand sel = .ok (.left, k) := by
  have := k.isLt
  rw [stateOperand, if_pos (by omega), if_pos (by omega)]
  exact congrArg (fun m => Except.ok (Channel.left, m)) (Fin.ext (by simp only; omega))

theorem stateOperand_right {sel : BitVec 8} {k : Fin 4} (h : sel.toNat = 4 + k.val) :
    stateOperand sel = .ok (.right, k) := by
  have := k.isLt
  rw [stateOperand, if_pos (by omega), if_neg (by omega)]
  exact congrArg (fun m => Except.ok (Channel.right, m)) (Fin.ext (by simp only; omega))

theorem stateOperand_error {sel : BitVec 8} (h : 7 < sel.toNat) : stateOperand sel = .error .badSelect := by
  rw [stateOperand, if_neg (by omega)]

theorem bankOperand_shadow {sel : BitVec 8} (h : sel.toNat = 0) : bankOperand sel = .ok false := by
  rw [bankOperand, if_pos h]

theorem bankOperand_active {sel : BitVec 8} (h : sel.toNat = 1) : bankOperand sel = .ok true := by
  rw [bankOperand, if_neg (by omega), if_pos h]

theorem bankOperand_error {sel : BitVec 8} (h : 1 < sel.toNat) : bankOperand sel = .error .badSelect := by
  rw [bankOperand, if_neg (by omega), if_neg (by omega)]

theorem kindOperand_ok {data : Word} (h : data.toNat ≤ 9) : kindOperand data = .ok (data.extractLsb' 0 4) := by
  rw [kindOperand, if_neg (by omega)]

theorem kindOperand_error {data : Word} (h : 9 < data.toNat) : kindOperand data = .error .badKind := by
  rw [kindOperand, if_pos h]

theorem countOperand_ok {data : Word} (h : data.toNat ≤ 20) : countOperand data = .ok (data.extractLsb' 0 8) := by
  rw [countOperand, if_neg (by simpa using h)]

theorem countOperand_error {data : Word} (h : 20 < data.toNat) : countOperand data = .error .badNstages := by
  rw [countOperand, if_pos (by simpa using h)]

/-! ### Checks (R203, R210) -/

theorem checkFree_ok {s : State} (h : s.commitPending = false) : checkFree s = .ok () := by simp [checkFree, h]

theorem checkFree_error {s : State} (h : s.commitPending = true) : checkFree s = .error .busy := by simp [checkFree, h]

/-! ### The stages below a chain length -/

@[simp] theorem mem_stagesBelow {n : BitVec 8} {i : StageIdx} : i ∈ stagesBelow n ↔ i.val < n.toNat := by
  simp [stagesBelow]

theorem stagesBelow_nodup (n : BitVec 8) : (stagesBelow n).Nodup := (List.nodup_finRange _).filter _

/-- The stages are visited in index order (42_biquad.md R176). -/
theorem stagesBelow_sorted (n : BitVec 8) : (stagesBelow n).Pairwise (· < ·) :=
  (List.pairwise_lt_finRange _).filter _

theorem stagesBelow_zero : stagesBelow 0 = [] := by decide

theorem checkComplete_ok {s : State} (h : ∀ i : StageIdx, i.val < s.shNst.toNat → s.shKind[i] ≠ kindNone) :
    checkComplete s = .ok () := by
  rw [checkComplete, if_pos]
  simpa using h

theorem checkComplete_error {s : State} {i : StageIdx} (lt : i.val < s.shNst.toNat) (h : s.shKind[i] = kindNone) :
    checkComplete s = .error .incomplete := by
  rw [checkComplete, if_neg]
  simpa using ⟨i, lt, h⟩

/-! ### Indexed access -/

@[simp] theorem putLane_lane (t : StageState) (c : Channel) (b : BqState) : (t.putLane c b).lane c = b := by
  cases c <;> rfl

theorem putLane_lane_of_ne (t : StageState) {c d : Channel} (h : d ≠ c) (b : BqState) :
    (t.putLane c b).lane d = t.lane d := by
  cases c <;> cases d <;> first | rfl | exact absurd rfl h

@[simp] theorem get_put (c : Coeffs) (k : Fin 6) (v : Word) : (c.put k v).get k = v := by
  fin_cases k <;> rfl

theorem get_put_of_ne (c : Coeffs) {j k : Fin 6} (h : j ≠ k) (v : Word) : (c.put k v).get j = c.get j := by
  fin_cases k <;> fin_cases j <;> first | rfl | exact absurd rfl h

end Sys2Proof.Machine
end

