-- ==== Sys2Proof/Laws/PerInstr.lean ====
section
/-! SUPPORT. Statements made of every instruction, one lemma per constructor of `Instr`. They are about the instruction
as syntax. -/

namespace Sys2Proof.Laws

/-- The encoding leaves the reserved field of a command word zero (30_encoding.md R70 RSV), so no encoded command meets
the RSV part of the RSVD refusal. -/
def EncodedReserved.Statement (i : Instr) : Prop :=
  ∀ cmd data, encode i = .command cmd data → rsvField cmd = 0

/-- A transaction of `encodeCommand` has a zero reserved field. -/
theorem rsvField_of_encodeCommand (o s k : BitVec 8) (d : Word) :
    ∀ cmd data, encodeCommand o s k d = .command cmd data → rsvField cmd = 0 := by
  intro cmd data h
  cases h
  exact rsvField_commandWord o s k

theorem EncodedReserved.nop : EncodedReserved.Statement (.nop) := rsvField_of_encodeCommand _ _ _ _
theorem EncodedReserved.lda (data : Word) : EncodedReserved.Statement (.lda data) := rsvField_of_encodeCommand _ _ _ _
theorem EncodedReserved.qmul (data : Word) : EncodedReserved.Statement (.qmul data) := rsvField_of_encodeCommand _ _ _ _
theorem EncodedReserved.mac (data : Word) : EncodedReserved.Statement (.mac data) := rsvField_of_encodeCommand _ _ _ _
theorem EncodedReserved.msu (data : Word) : EncodedReserved.Statement (.msu data) := rsvField_of_encodeCommand _ _ _ _
theorem EncodedReserved.aclr : EncodedReserved.Statement (.aclr) := rsvField_of_encodeCommand _ _ _ _
theorem EncodedReserved.ard : EncodedReserved.Statement (.ard) := rsvField_of_encodeCommand _ _ _ _
theorem EncodedReserved.ald (data : Word) : EncodedReserved.Statement (.ald data) := rsvField_of_encodeCommand _ _ _ _
theorem EncodedReserved.cvtiq (data : Word) : EncodedReserved.Statement (.cvtiq data) := rsvField_of_encodeCommand _ _ _ _
theorem EncodedReserved.cvtqi (data : Word) : EncodedReserved.Statement (.cvtqi data) := rsvField_of_encodeCommand _ _ _ _
theorem EncodedReserved.wkind (stg : BitVec 8) (data : Word) : EncodedReserved.Statement (.wkind stg data) := rsvField_of_encodeCommand _ _ _ _
theorem EncodedReserved.wcoef (stg : BitVec 8) (sel : BitVec 8) (data : Word) : EncodedReserved.Statement (.wcoef stg sel data) := rsvField_of_encodeCommand _ _ _ _
theorem EncodedReserved.wnst (data : Word) : EncodedReserved.Statement (.wnst data) := rsvField_of_encodeCommand _ _ _ _
theorem EncodedReserved.rscoef (stg : BitVec 8) (sel : BitVec 8) : EncodedReserved.Statement (.rscoef stg sel) := rsvField_of_encodeCommand _ _ _ _
theorem EncodedReserved.rskind (stg : BitVec 8) : EncodedReserved.Statement (.rskind stg) := rsvField_of_encodeCommand _ _ _ _
theorem EncodedReserved.rnst (sel : BitVec 8) : EncodedReserved.Statement (.rnst sel) := rsvField_of_encodeCommand _ _ _ _
theorem EncodedReserved.racoef (stg : BitVec 8) (sel : BitVec 8) : EncodedReserved.Statement (.racoef stg sel) := rsvField_of_encodeCommand _ _ _ _
theorem EncodedReserved.rakind (stg : BitVec 8) : EncodedReserved.Statement (.rakind stg) := rsvField_of_encodeCommand _ _ _ _
theorem EncodedReserved.rstate (stg : BitVec 8) (sel : BitVec 8) : EncodedReserved.Statement (.rstate stg sel) := rsvField_of_encodeCommand _ _ _ _
theorem EncodedReserved.commit : EncodedReserved.Statement (.commit) := rsvField_of_encodeCommand _ _ _ _
theorem EncodedReserved.rstst (stg : BitVec 8) : EncodedReserved.Statement (.rstst stg) := rsvField_of_encodeCommand _ _ _ _
theorem EncodedReserved.rstall : EncodedReserved.Statement (.rstall) := rsvField_of_encodeCommand _ _ _ _
theorem EncodedReserved.rstat : EncodedReserved.Statement (.rstat) := rsvField_of_encodeCommand _ _ _ _
theorem EncodedReserved.rid : EncodedReserved.Statement (.rid) := rsvField_of_encodeCommand _ _ _ _
theorem EncodedReserved.clrst : EncodedReserved.Statement (.clrst) := rsvField_of_encodeCommand _ _ _ _
theorem EncodedReserved.idle : EncodedReserved.Statement (.idle) := fun _ _ h => nomatch h
theorem EncodedReserved.sample (inL : Word) (inR : Word) : EncodedReserved.Statement (.sample inL inR) := fun _ _ h => nomatch h
theorem EncodedReserved.boundary : EncodedReserved.Statement (.boundary) := fun _ _ h => nomatch h
theorem EncodedReserved.sample16 (inL : Word) (inR : Word) : EncodedReserved.Statement (.sample16 inL inR) := fun _ _ h => nomatch h

end Sys2Proof.Laws
end

