-- ==== Sys2Proof/Laws/Pipeline.lean ====
section
/-! SUPPORT. The pipeline's shared operations, said once each: what a chain run, a replay, a reconfiguration, a commit and
the state resets write, stage by stage, and what they leave (42_biquad.md R176, 43_chain.md R213 to R216). -/

namespace Sys2Proof.Machine

variable (P : Config.Params)

/-! ### Vectors at a stage -/

theorem set_at {α : Type} (v : Vector α Config.maxStages) (i : StageIdx) (x : α) : (v.set i x)[i] = x := by simp

theorem set_at_ne {α : Type} (v : Vector α Config.maxStages) {i j : StageIdx} (h : j ≠ i) (x : α) :
    (v.set i x)[j] = v[j] := by
  simp only [Fin.getElem_fin]
  exact Vector.getElem_set_ne _ _ fun e => h (Fin.ext e.symm)

theorem vector_ext {α : Type} {v w : Vector α Config.maxStages} (h : ∀ i : StageIdx, v[i] = w[i]) : v = w :=
  Vector.ext fun i hi => h ⟨i, hi⟩

/-! ### The chain run (R176) -/

variable (coef : Vector Coeffs Config.maxStages) (c : Channel)

@[simp] theorem chainFold_nil (v : Word) (st : Vector StageState Config.maxStages) :
    chainFold P coef c [] v st = ⟨v, st, false⟩ := rfl

theorem chainFold_cons (i : StageIdx) (rest : List StageIdx) (v : Word) (st : Vector StageState Config.maxStages) :
    chainFold P coef c (i :: rest) v st =
      let r := bqStep P coef[i] (st[i].lane c) v
      let q := chainFold P coef c rest r.y (st.set i (st[i].putLane c r.lane))
      ⟨q.out, q.st, r.sat || q.sat⟩ := rfl

/-- A stage that is not run keeps its state. -/
theorem chainFold_st_of_not_mem {i : StageIdx} (l : List StageIdx) (h : i ∉ l) (v : Word)
    (st : Vector StageState Config.maxStages) : (chainFold P coef c l v st).st[i] = st[i] := by
  induction l generalizing v st with
  | nil => rfl
  | cons j rest ih =>
    rw [List.mem_cons, not_or] at h
    rw [chainFold_cons]
    exact (ih h.2 _ _).trans (set_at_ne _ h.1 _)

/-- A run of one channel leaves the other channel's lane of every stage (R175, R179). -/
theorem chainFold_other_lane {d : Channel} (hd : d ≠ c) (l : List StageIdx) (v : Word)
    (st : Vector StageState Config.maxStages) (i : StageIdx) :
    ((chainFold P coef c l v st).st[i]).lane d = st[i].lane d := by
  induction l generalizing v st with
  | nil => rfl
  | cons j rest ih =>
    rw [chainFold_cons]
    refine (ih _ _).trans ?_
    by_cases e : i = j
    · subst e
      rw [set_at, putLane_lane_of_ne _ hd]
    · rw [set_at_ne _ e]

/-! ### What a stereo sample leaves -/

section stereoRun
variable (l r : Word) (s : State)
@[simp] theorem stereoRun_opa : (stereoRun P l r s).state.opa = s.opa := rfl
@[simp] theorem stereoRun_acc : (stereoRun P l r s).state.acc = s.acc := rfl
@[simp] theorem stereoRun_shCoef : (stereoRun P l r s).state.shCoef = s.shCoef := rfl
@[simp] theorem stereoRun_shKind : (stereoRun P l r s).state.shKind = s.shKind := rfl
@[simp] theorem stereoRun_shNst : (stereoRun P l r s).state.shNst = s.shNst := rfl
@[simp] theorem stereoRun_acCoef : (stereoRun P l r s).state.acCoef = s.acCoef := rfl
@[simp] theorem stereoRun_acKind : (stereoRun P l r s).state.acKind = s.acKind := rfl
@[simp] theorem stereoRun_acNst : (stereoRun P l r s).state.acNst = s.acNst := rfl
@[simp] theorem stereoRun_commitPending : (stereoRun P l r s).state.commitPending = s.commitPending := rfl
@[simp] theorem stereoRun_rstPend : (stereoRun P l r s).state.rstPend = s.rstPend := rfl
@[simp] theorem stereoRun_err : (stereoRun P l r s).state.err = s.err := rfl
@[simp] theorem stereoRun_errCode : (stereoRun P l r s).state.errCode = s.errCode := rfl
@[simp] theorem stereoRun_sat : (stereoRun P l r s).state.sat = s.sat := rfl
@[simp] theorem stereoRun_pending : (stereoRun P l r s).state.pending = s.pending := rfl
@[simp] theorem stereoRun_reply : (stereoRun P l r s).state.reply = s.reply := rfl

/-- A stage that is not active keeps its state through a sample (R176). -/
theorem stereoRun_st_of_inactive {i : StageIdx} (h : ¬ i.val < s.acNst.toNat) :
    (stereoRun P l r s).state.st[i] = s.st[i] := by
  have hn : i ∉ stagesBelow s.acNst := by simpa using h
  exact (chainFold_st_of_not_mem P s.acCoef .right _ hn _ _).trans (chainFold_st_of_not_mem P s.acCoef .left _ hn _ _)
end stereoRun

/-! ### Replay and reconfiguration (R214, R215) -/

theorem replay_eq (i : StageIdx) (s : State) :
    replay P i c s =
      { s with
        st := s.st.set i (s.st[i].putLane c (replaySteps P s.acCoef[i] (s.st[i].lane c)).2.lane)
        dsat := s.dsat || ((replaySteps P s.acCoef[i] (s.st[i].lane c)).1.sat ||
          (replaySteps P s.acCoef[i] (s.st[i].lane c)).2.sat) } := rfl

theorem needsReplay_iff (s : State) (i : StageIdx) : needsReplay s i = true ↔ ReplayDue s i := by
  simp only [needsReplay, ReplayDue, Bool.or_eq_true, Bool.and_eq_true, decide_eq_true_eq]
  exact Iff.rfl

/-- A reconfiguration writes AC_COEF, AC_KIND, ST and DSAT, and nothing else. -/
theorem reconfigure_frame (s : State) (i : StageIdx) :
    reconfigure P s i =
      { s with
        acCoef := (reconfigure P s i).acCoef
        acKind := (reconfigure P s i).acKind
        st := (reconfigure P s i).st
        dsat := (reconfigure P s i).dsat } := by
  rw [reconfigure]
  split <;> rfl

@[simp] theorem reconfigure_acCoef (s : State) (i : StageIdx) :
    (reconfigure P s i).acCoef = s.acCoef.set i s.shCoef[i] := by
  rw [reconfigure]
  split <;> rfl

@[simp] theorem reconfigure_acKind (s : State) (i : StageIdx) :
    (reconfigure P s i).acKind = s.acKind.set i s.shKind[i] := by
  rw [reconfigure]
  split <;> rfl

/-- Reconfiguring a stage leaves the state of every other stage. -/
theorem reconfigure_st_of_ne (s : State) {i j : StageIdx} (h : j ≠ i) : (reconfigure P s i).st[j] = s.st[j] := by
  rw [reconfigure]
  split
  · rw [replay_eq, replay_eq]
    exact (set_at_ne _ h _).trans (set_at_ne _ h _)
  · rfl

/-- The state of a reconfigured stage: both lanes replayed with the new words where a replay is due, else kept. -/
theorem reconfigure_st_at (s : State) (i : StageIdx) :
    (reconfigure P s i).st[i] =
      if needsReplay s i then
        ⟨(replaySteps P s.shCoef[i] s.st[i].left).2.lane, (replaySteps P s.shCoef[i] s.st[i].right).2.lane⟩
      else s.st[i] := by
  rw [reconfigure]
  split
  · rw [replay_eq, replay_eq]
    simp [StageState.putLane, StageState.lane]
  · rfl

/-- Whether reconfiguring a stage sets DSAT. -/
theorem reconfigure_dsat (s : State) (i : StageIdx) :
    (reconfigure P s i).dsat =
      (s.dsat || (needsReplay s i &&
        ((replaySteps P s.shCoef[i] s.st[i].left).1.sat || (replaySteps P s.shCoef[i] s.st[i].left).2.sat ||
          (replaySteps P s.shCoef[i] s.st[i].right).1.sat || (replaySteps P s.shCoef[i] s.st[i].right).2.sat))) := by
  rw [reconfigure]
  split
  · rename_i h
    rw [replay_eq, replay_eq]
    simp [StageState.putLane, StageState.lane, h, Bool.or_assoc]
  · rename_i h
    simp [h]

/-- A fold of reconfigurations writes AC_COEF, AC_KIND, ST and DSAT, and nothing else. -/
theorem foldl_reconfigure_frame (l : List StageIdx) (s : State) :
    l.foldl (reconfigure P) s =
      { s with
        acCoef := (l.foldl (reconfigure P) s).acCoef
        acKind := (l.foldl (reconfigure P) s).acKind
        st := (l.foldl (reconfigure P) s).st
        dsat := (l.foldl (reconfigure P) s).dsat } := by
  induction l generalizing s with
  | nil => rfl
  | cons i rest ih =>
    have h := ih (reconfigure P s i)
    rw [reconfigure_frame P s i] at h
    rw [List.foldl_cons]
    conv_lhs => rw [reconfigure_frame P s i, h]
    conv_rhs => rw [reconfigure_frame P s i]

/-- A stage that is not in the list keeps its active words, kind and state. -/
theorem foldl_reconfigure_of_not_mem {i : StageIdx} (l : List StageIdx) (h : i ∉ l) (s : State) :
    (l.foldl (reconfigure P) s).acCoef[i] = s.acCoef[i] ∧ (l.foldl (reconfigure P) s).acKind[i] = s.acKind[i] ∧
      (l.foldl (reconfigure P) s).st[i] = s.st[i] := by
  induction l generalizing s with
  | nil => exact ⟨rfl, rfl, rfl⟩
  | cons j rest ih =>
    rw [List.mem_cons, not_or] at h
    obtain ⟨h1, h2, h3⟩ := ih h.2 (reconfigure P s j)
    rw [List.foldl_cons, h1, h2, h3, reconfigure_acCoef, reconfigure_acKind, reconfigure_st_of_ne P s h.1,
      set_at_ne _ h.1, set_at_ne _ h.1]
    exact ⟨rfl, rfl, rfl⟩

/-- A reconfiguration of another stage does not change what a stage's own reconfiguration reads (R213). -/
theorem needsReplay_reconfigure_of_ne (s : State) {i j : StageIdx} (h : i ≠ j) :
    needsReplay (reconfigure P s j) i = needsReplay s i := by
  rw [needsReplay, reconfigure_acCoef, reconfigure_acKind, set_at_ne _ h, set_at_ne _ h, reconfigure_frame P s j]
  rfl

/-- A stage in the list takes its shadow words and kind, and the state its own reconfiguration gives it. -/
theorem foldl_reconfigure_of_mem {i : StageIdx} (l : List StageIdx) (nd : l.Nodup) (h : i ∈ l) (s : State) :
    (l.foldl (reconfigure P) s).acCoef[i] = s.shCoef[i] ∧ (l.foldl (reconfigure P) s).acKind[i] = s.shKind[i] ∧
      (l.foldl (reconfigure P) s).st[i] = (reconfigure P s i).st[i] := by
  induction l generalizing s with
  | nil => exact absurd h (by simp)
  | cons j rest ih =>
    obtain ⟨hj, nd'⟩ := List.nodup_cons.mp nd
    rw [List.foldl_cons]
    by_cases e : i = j
    · subst e
      obtain ⟨h1, h2, h3⟩ := foldl_reconfigure_of_not_mem P rest hj (reconfigure P s i)
      rw [h1, h2, h3, reconfigure_acCoef, reconfigure_acKind, set_at, set_at]
      exact ⟨rfl, rfl, rfl⟩
    · have hm : i ∈ rest := by simpa [e] using h
      obtain ⟨h1, h2, h3⟩ := ih nd' hm (reconfigure P s j)
      rw [h1, h2, h3, reconfigure_st_at, reconfigure_st_at, needsReplay_reconfigure_of_ne P s e,
        reconfigure_st_of_ne P s e, reconfigure_frame P s j]
      exact ⟨rfl, rfl, rfl⟩

/-! ### Commit and resets (R213, R216) -/

/-- A commit writes AC_COEF, AC_KIND, AC_NST, ST and DSAT, and nothing else. -/
theorem applyCommit_frame (s : State) :
    applyCommit P s =
      { s with
        acCoef := (applyCommit P s).acCoef
        acKind := (applyCommit P s).acKind
        acNst := s.shNst
        st := (applyCommit P s).st
        dsat := (applyCommit P s).dsat } := by
  rw [applyCommit]
  conv_lhs => rw [foldl_reconfigure_frame]
  simp only [State.setAcNst]

@[simp] theorem applyResets_st (s : State) (i : StageIdx) :
    (applyResets s).st[i] = if s.rstPend[i] then zeroStage else s.st[i] := by
  simp [applyResets]

/-- The state resets write ST and RST_PEND, and nothing else. -/
theorem applyResets_frame (s : State) :
    applyResets s = { s with st := (applyResets s).st, rstPend := Vector.replicate Config.maxStages false } := by
  simp only [applyResets, State.setSt, State.setRstPend]

/-- A BOUNDARY writes the active bank, ST, DSAT and the pending bits, and nothing else (R220). -/
theorem applyBoundary_frame (s : State) :
    applyBoundary P s =
      { s with
        acCoef := (applyBoundary P s).acCoef
        acKind := (applyBoundary P s).acKind
        acNst := (applyBoundary P s).acNst
        st := (applyBoundary P s).st
        commitPending := false
        rstPend := Vector.replicate Config.maxStages false
        dsat := (applyBoundary P s).dsat } := by
  unfold applyBoundary
  split
  · generalize h : applyCommit P s = u
    rw [applyCommit_frame] at h
    subst h
    rfl
  · rename_i h
    rw [Bool.not_eq_true] at h
    generalize hu : s = u at h ⊢
    cases u
    cases h
    rfl

/-- With no commit pending, a BOUNDARY applies the state resets alone (R220). -/
theorem applyBoundary_of_no_commit {s : State} (h : s.commitPending = false) : applyBoundary P s = applyResets s := by
  rw [applyBoundary, h, if_neg Bool.false_ne_true]

/-- With a commit pending, what a BOUNDARY leaves in terms of the fold of reconfigurations (R213, R220). -/
theorem applyBoundary_of_commit {s : State} (h : s.commitPending = true) :
    (applyBoundary P s).acCoef = ((stagesBelow s.shNst).foldl (reconfigure P) s).acCoef ∧
    (applyBoundary P s).acKind = ((stagesBelow s.shNst).foldl (reconfigure P) s).acKind ∧
    (applyBoundary P s).acNst = s.shNst ∧
    (applyBoundary P s).dsat = ((stagesBelow s.shNst).foldl (reconfigure P) s).dsat ∧
    ∀ i : StageIdx, (applyBoundary P s).st[i] =
      if s.rstPend[i] then zeroStage else ((stagesBelow s.shNst).foldl (reconfigure P) s).st[i] := by
  rw [applyBoundary, if_pos h]
  refine ⟨?_, ?_, ?_, ?_, fun i => ?_⟩
  · rw [applyResets_frame]; rfl
  · rw [applyResets_frame]; rfl
  · rw [applyResets_frame]; rfl
  · rw [applyResets_frame]; rfl
  · rw [applyResets_st, setCommitPending_rstPend, applyCommit_frame]; rfl

end Sys2Proof.Machine
end

