-- ==== Sys2Proof/Laws/Step.lean ====
section
/-! SUPPORT. What one step can do, said once (20_memory.md R55). -/

namespace Sys2Proof.Machine

theorem step_of_nil {s : State} (h : s.pending = []) : step s = .next s := by simp [step, takeEvent, h]

theorem step_of_cons {s : State} {e : Event} {rest : List Event} (h : s.pending = e :: rest) :
    step s = runEvent e (s.setPending rest) := by simp [step, takeEvent, h]

@[simp] theorem runEvent_reset (s : State) : runEvent .reset s = .next (State.reset.setPending s.pending) := rfl

theorem runTransaction_ok {t : Transaction} {i : Instr} (h : decode t = .ok i) (s : State) :
    runTransaction t s = exec i s := by simp [runTransaction, h]

theorem runTransaction_error {t : Transaction} {e : CmdError} (h : decode t = .error e) (s : State) :
    runTransaction t s = .next (refusedWith e.code s) := by simp [runTransaction, h]

/-- A step that answers a next state did nothing, reset the machine, executed an instruction or refused a word. -/
theorem step_cases {s t : State} (h : step s = .next t) :
    (s.pending = [] ∧ t = s) ∨
      ∃ e rest, s.pending = e :: rest ∧
        ((e = .reset ∧ t = State.reset.setPending rest) ∨
          (∃ x i, e = .transaction x ∧ decode x = .ok i ∧ exec i (s.setPending rest) = .next t) ∨
          (∃ x c, e = .transaction x ∧ decode x = .error c ∧ t = refusedWith c.code (s.setPending rest))) := by
  rcases hp : s.pending with _ | ⟨e, rest⟩
  · rw [step_of_nil hp] at h
    exact .inl ⟨rfl, by simpa using h.symm⟩
  · rw [step_of_cons hp] at h
    refine .inr ⟨e, rest, rfl, ?_⟩
    rcases e with x | _
    · rcases hx : decode x with c | i
      · refine .inr (.inr ⟨x, c, rfl, hx, ?_⟩)
        rw [runEvent, runTransaction_error hx] at h
        simpa using h.symm
      · refine .inr (.inl ⟨x, i, rfl, hx, ?_⟩)
        rw [runEvent, runTransaction_ok hx] at h
        exact h
    · refine .inl ⟨rfl, ?_⟩
      rw [runEvent_reset] at h
      simpa using h.symm

/-! ### Runs of several steps -/

theorem run_succ (M : Host.Core) {s t : M.State} (h : M.step s = .next t) (k : Nat) : M.run (k + 1) s = M.run k t := by
  simp only [Host.Core.run, h]

/-- A run is its first step and the run from there. -/
theorem core_run_succ {s t : State} (h : step s = .next t) (k : Nat) :
    Host.Core.run Sys2Proof.core (k + 1) s = Host.Core.run Sys2Proof.core k t := run_succ Sys2Proof.core h k

end Sys2Proof.Machine
end

