-- ==== Sys2Proof/Tests/Slice0.lean ====
section
/-! SUPPORT. Tests of the model. Expected values come from the tables and programs of spec/95_test_vectors.md, or are worked
out by hand from the rule a comment names; the decoded words are those of 30_encoding.md R70 and R74. The last part shows,
for every claim with hypotheses, a concrete state and operands that meet them. -/

namespace Sys2Proof.Tests

open Sys2Proof Sys2Proof.Machine

/-- What `f` reads in the next state of an outcome. -/
def see {α : Type} (f : State → α) (o : Host.Outcome State Fault Refusal) : Option α :=
  match o with
  | .next s => some (f s)
  | .fault _ => none
  | .refused _ => none

/-- What an instruction replies and what `f` reads after it. -/
def after {α : Type} (i : Instr) (s : State) (f : State → α) : Option (Reply × α) := see (fun t => (t.reply, f t)) (exec i s)

/-- The one-pole low-pass of program P2: y = 0.5·x + 0.5·y1. -/
def onePole : Coeffs := ⟨0x08000000, 0, 0, 0x10000000, 0xF8000000, 0⟩

/-- A machine whose only stage, of kind CUSTOMIIR, is active with coefficients `c` and state `t`. -/
def oneStage (c : Coeffs) (t : StageState) : State :=
  { State.reset with
    shCoef := State.reset.shCoef.set 0 c
    shKind := State.reset.shKind.set 0 9
    shNst := 1
    acCoef := State.reset.acCoef.set 0 c
    acKind := State.reset.acKind.set 0 9
    acNst := 1
    st := State.reset.st.set 0 t }

/-- The end state of program P2. -/
def endOfP2 : State :=
  oneStage onePole ⟨⟨0x02000000, 0x04000000, 0x03000000, 0x04000000⟩, ⟨0x08000000, 0, 0x03000000, 0xFE000000⟩⟩

/-- The reset state with a commit pending. -/
def busyState : State := { State.reset with commitPending := true }

/-! ### WellFormed: an ill-formed term for each check -/

theorem test_wf_refuses_wkind_stage : (Instr.wkind 20 0).wellFormed = false := by decide
theorem test_wf_refuses_wcoef_stage : (Instr.wcoef 20 0 0).wellFormed = false := by decide
theorem test_wf_refuses_wcoef_selector : (Instr.wcoef 0 6 0).wellFormed = false := by decide
theorem test_wf_refuses_rscoef_stage : (Instr.rscoef 255 0).wellFormed = false := by decide
theorem test_wf_refuses_rscoef_selector : (Instr.rscoef 0 6).wellFormed = false := by decide
theorem test_wf_refuses_rskind_stage : (Instr.rskind 20).wellFormed = false := by decide
theorem test_wf_refuses_rnst_selector : (Instr.rnst 2).wellFormed = false := by decide
theorem test_wf_refuses_racoef_stage : (Instr.racoef 20 0).wellFormed = false := by decide
theorem test_wf_refuses_racoef_selector : (Instr.racoef 0 6).wellFormed = false := by decide
theorem test_wf_refuses_rakind_stage : (Instr.rakind 20).wellFormed = false := by decide
theorem test_wf_refuses_rstate_stage : (Instr.rstate 20 0).wellFormed = false := by decide
theorem test_wf_refuses_rstate_selector : (Instr.rstate 0 8).wellFormed = false := by decide
theorem test_wf_refuses_rstst_stage : (Instr.rstst 20).wellFormed = false := by decide
theorem test_wf_accepts_last_slot :
    (Instr.wcoef 19 5 0).wellFormed = true ∧ (Instr.rstate 19 7).wellFormed = true ∧ (Instr.rnst 1).wellFormed = true := by
  decide

/-! ### Decoding: one word of every row, written out from R70, R74 and R80 -/

theorem test_decode_nop : decode (.command 0x00000000 5) = .ok .nop := by rfl
theorem test_decode_lda : decode (.command 0x01000000 0x08000000) = .ok (.lda 0x08000000) := by rfl
theorem test_decode_qmul : decode (.command 0x02000000 0x02000000) = .ok (.qmul 0x02000000) := by rfl
theorem test_decode_mac : decode (.command 0x03000000 0x04000000) = .ok (.mac 0x04000000) := by rfl
theorem test_decode_msu : decode (.command 0x04000000 0x7FFFFFFF) = .ok (.msu 0x7FFFFFFF) := by rfl
theorem test_decode_aclr : decode (.command 0x05000000 0) = .ok .aclr := by rfl
theorem test_decode_ard : decode (.command 0x06000000 0) = .ok .ard := by rfl
theorem test_decode_ald : decode (.command 0x07000000 0xF0000000) = .ok (.ald 0xF0000000) := by rfl
theorem test_decode_cvtiq : decode (.command 0x08000000 0x00004000) = .ok (.cvtiq 0x00004000) := by rfl
theorem test_decode_cvtqi : decode (.command 0x09000000 0x00003000) = .ok (.cvtqi 0x00003000) := by rfl
theorem test_decode_wkind : decode (.command 0x10010000 6) = .ok (.wkind 1 6) := by rfl
theorem test_decode_wcoef : decode (.command 0x11010400 0xF8000000) = .ok (.wcoef 1 4 0xF8000000) := by rfl
theorem test_decode_wnst : decode (.command 0x12000000 2) = .ok (.wnst 2) := by rfl
theorem test_decode_rscoef : decode (.command 0x13130500 0) = .ok (.rscoef 19 5) := by rfl
theorem test_decode_rskind : decode (.command 0x14020000 0) = .ok (.rskind 2) := by rfl
theorem test_decode_rnst : decode (.command 0x15000100 0) = .ok (.rnst 1) := by rfl
theorem test_decode_racoef : decode (.command 0x16030200 0) = .ok (.racoef 3 2) := by rfl
theorem test_decode_rakind : decode (.command 0x17130000 0) = .ok (.rakind 19) := by rfl
theorem test_decode_rstate : decode (.command 0x18000700 0) = .ok (.rstate 0 7) := by rfl
theorem test_decode_commit : decode (.command 0x20000000 0) = .ok .commit := by rfl
theorem test_decode_rstst : decode (.command 0x21030000 0) = .ok (.rstst 3) := by rfl
theorem test_decode_rstall : decode (.command 0x22000000 0) = .ok .rstall := by rfl
theorem test_decode_rstat : decode (.command 0x23000000 0) = .ok .rstat := by rfl
theorem test_decode_rid : decode (.command 0x24000000 0) = .ok .rid := by rfl
theorem test_decode_clrst : decode (.command 0x25000000 0) = .ok .clrst := by rfl
theorem test_decode_idle : decode (.sample 0b00 1 2) = .ok .idle := by rfl
theorem test_decode_sample : decode (.sample 0b01 1 2) = .ok (.sample 1 2) := by rfl
theorem test_decode_boundary : decode (.sample 0b10 1 2) = .ok .boundary := by rfl
theorem test_decode_sample16 : decode (.sample 0b11 1 2) = .ok (.sample16 1 2) := by rfl

/-- The decoder's refusals in the table of 95_test_vectors.md section 5. -/
theorem test_decode_refuses :
    decode (.command 0xFF000000 0) = .error .illegalOpcode ∧ decode (.command 0x0A000000 0) = .error .illegalOpcode ∧
    decode (.command 0xFF000001 0) = .error .illegalOpcode ∧ decode (.command 0x01000001 0) = .error .rsvd ∧
    decode (.command 0x01010000 0) = .error .rsvd ∧ decode (.command 0x10000100 0) = .error .rsvd ∧
    decode (.command 0x11140001 0) = .error .rsvd ∧ decode (.command 0x23000001 0) = .error .rsvd :=
  ⟨rfl, rfl, rfl, rfl, rfl, rfl, rfl, rfl⟩

/-- The refusals the meanings make in the same table: BAD_STAGE, BAD_SELECT, BAD_KIND, BAD_NSTAGES. -/
theorem test_meanings_refuse :
    see State.errCode (step (State.reset.offer (.command 0x11140000 0))) = some 0x03 ∧
    see State.errCode (step (State.reset.offer (.command 0x21140000 0))) = some 0x03 ∧
    see State.errCode (step (State.reset.offer (.command 0x11000600 0))) = some 0x04 ∧
    see State.errCode (step (State.reset.offer (.command 0x15000200 0))) = some 0x04 ∧
    see State.errCode (step (State.reset.offer (.command 0x18000800 0))) = some 0x04 ∧
    see State.errCode (step (State.reset.offer (.command 0x10000000 10))) = some 0x05 ∧
    see State.errCode (step (State.reset.offer (.command 0x10000000 15))) = some 0x05 ∧
    see State.errCode (step (State.reset.offer (.command 0x12000000 21))) = some 0x06 ∧
    see State.errCode (step (State.reset.offer (.command 0x12000000 0x00000100))) = some 0x06 := by
  decide

/-- The rows of the same table with a commit pending, in the priority of R272, and INCOMPLETE. -/
theorem test_meanings_refuse_while_pending :
    see State.errCode (step (busyState.offer (.command 0x11000000 0))) = some 0x07 ∧
    see State.errCode (step (busyState.offer (.command 0x10000000 12))) = some 0x07 ∧
    see State.errCode (step (busyState.offer (.command 0x10190000 12))) = some 0x03 ∧
    see State.errCode (step ({ State.reset with shNst := 1 }.offer (.command 0x20000000 0))) = some 0x08 := by
  decide

/-! ### Arithmetic (95_test_vectors.md 2.1 and 2.3) -/

/-- Rows of the QMul table under the three MUL_ROUND values. -/
theorem test_qmul_modes :
    qMul ⟨.floor, .satFinal⟩ 0xFFFFFFFD 0x08000000 = ⟨0xFFFFFFFE, false⟩ ∧
    qMul ⟨.towardZero, .satFinal⟩ 0xFFFFFFFD 0x08000000 = ⟨0xFFFFFFFF, false⟩ ∧
    qMul ⟨.halfAway, .satFinal⟩ 0xFFFFFFFD 0x08000000 = ⟨0xFFFFFFFE, false⟩ ∧
    qMul ⟨.halfAway, .satFinal⟩ 0x08000000 0x00000001 = ⟨0x00000001, false⟩ ∧
    qMul ⟨.towardZero, .satFinal⟩ 0x18000000 0xFFFFFFFF = ⟨0xFFFFFFFF, false⟩ := by
  decide

/-- Rows of the QMul table where the product saturates, and where it just does not. -/
theorem test_qmul_saturates :
    qMul hwParams 0x80000000 0x7FFFFFFF = ⟨0x80000000, true⟩ ∧ qMul hwParams 0xE0000000 0x40000000 = ⟨0x80000000, false⟩ ∧
    qMul hwParams 0x20000000 0x40000000 = ⟨0x7FFFFFFF, true⟩ ∧
    qMul hwParams 0x7FFFFFFF 0x10000001 = ⟨0x7FFFFFFF, true⟩ := by
  decide

/-- Rows of the ToI16 table: halves away from zero, and both saturation edges. -/
theorem test_toI16 :
    toI16 0x00001000 = ⟨1, false⟩ ∧ toI16 0xFFFFF000 = ⟨0xFFFF, false⟩ ∧ toI16 0x0FFFEFFF = ⟨0x7FFF, false⟩ ∧
    toI16 0x0FFFF000 = ⟨0x7FFF, true⟩ ∧ toI16 0xF0000000 = ⟨0x8000, false⟩ ∧ toI16 0xEFFFF000 = ⟨0x8000, true⟩ := by
  decide

/-- The stage table: five terms, sum overflow in both sum modes, and a partial sum beyond range. -/
theorem test_stage_step :
    bqStep hwParams ⟨0x02000000, 0x04000000, 0x02000000, 0x12345678, 0xE0000000, 0x08000000⟩
      ⟨0x01000000, 0xFF000000, 0x02000000, 0x03000000⟩ 0x08000000 =
        ⟨0x03A00000, ⟨0x08000000, 0x01000000, 0x03A00000, 0x02000000⟩, false⟩ ∧
    (bqStep ⟨.floor, .satFinal⟩ ⟨0x40000000, 0x40000000, 0, 0x10000000, 0, 0⟩ ⟨0x18000000, 0, 0, 0⟩ 0x18000000).y =
      0x7FFFFFFF ∧
    bqStep ⟨.floor, .wrap32⟩ ⟨0x40000000, 0x40000000, 0, 0x10000000, 0, 0⟩ ⟨0x18000000, 0, 0, 0⟩ 0x18000000 =
      ⟨0xC0000000, ⟨0x18000000, 0x18000000, 0xC0000000, 0⟩, true⟩ ∧
    bqStep hwParams ⟨0x40000000, 0x40000000, 0, 0x10000000, 0x40000000, 0⟩ ⟨0x18000000, 0, 0x18000000, 0⟩ 0x18000000 =
      ⟨0x60000000, ⟨0x18000000, 0x18000000, 0x60000000, 0x18000000⟩, false⟩ := by
  decide

/-! ### One step of each instruction -/

-- 95_test_vectors.md section 6
theorem test_nop : after .nop State.reset State.err = some (.result 0, false) := by decide
theorem test_rid : after .rid State.reset State.sat = some (.result 0x421C1401, false) := by decide
theorem test_rstat_pending :
    after .rstat { State.reset with shNst := 1, commitPending := true } State.err = some (.result 0x01000001, false) := by
  decide
theorem test_rstat_fields :
    after .rstat { State.reset with shNst := 2, acNst := 1, err := true, errCode := 7, dsat := true, rstPend := State.reset.rstPend.set 19 true }
      State.errCode = some (.result 0x02010716, 7) := by
  decide
theorem test_clrst :
    after .clrst { State.reset with err := true, errCode := 5, sat := true, dsat := true, commitPending := true }
      (fun t => (t.err, t.errCode, t.sat, t.dsat, t.commitPending)) = some (.result 0, false, 0, false, false, true) := by
  decide

-- 95_test_vectors.md 2.1, 2.2, 2.3 and program P1
theorem test_lda : after (.lda 0x20000000) State.reset State.opa = some (.result 0, 0x20000000) := by decide
theorem test_qmul : after (.qmul 0x02000000) { State.reset with opa := 0x20000000 } State.sat =
    some (.result 0x04000000, false) := by decide
theorem test_qmul_sat : after (.qmul 0x7FFFFFFF) { State.reset with opa := 0x7FFFFFFF } State.sat =
    some (.result 0x7FFFFFFF, true) := by decide
theorem test_mac : after (.mac 0xFFFFFFFD) { State.reset with opa := 0x08000000 } (fun t => (t.acc, t.sat)) =
    some (.result 0, 0xFFFFFFFFFE, false) := by decide
theorem test_mac_sat :
    after (.mac 0x10000000) { State.reset with opa := 0x7FFFFFFF, acc := 0x7FFFFFFF00 } (fun t => (t.acc, t.sat)) =
      some (.result 0, 0x7FFFFFFFFF, true) := by decide
theorem test_msu : after (.msu 0x00000003) { State.reset with opa := 0x08000000 } (fun t => (t.acc, t.sat)) =
    some (.result 0, 0xFFFFFFFFFF, false) := by decide
theorem test_msu_sat :
    after (.msu 0x7FFFFFFF) { State.reset with opa := 0x20000000, acc := 0xFFF6000000 } (fun t => (t.acc, t.sat)) =
      some (.result 0, 0xFF76000001, true) := by decide
theorem test_aclr : after .aclr { State.reset with acc := 5, sat := true } (fun t => (t.acc, t.sat)) =
    some (.result 0, 0, true) := by decide
theorem test_ard : after .ard { State.reset with acc := 0x0080000000 } (fun t => (t.acc, t.sat)) =
    some (.result 0x7FFFFFFF, 0x0080000000, true) := by decide
theorem test_ard_exact : after .ard { State.reset with acc := 0xFFF6000000 } State.sat =
    some (.result 0xF6000000, false) := by decide
theorem test_ald : after (.ald 0xF0000000) State.reset State.acc = some (.result 0, 0xFFF0000000) := by decide
theorem test_cvtiq : after (.cvtiq 0xFFFF0001) State.reset State.sat = some (.result 0x00002000, false) := by decide
theorem test_cvtiq_min : after (.cvtiq 0x00008000) State.reset State.sat = some (.result 0xF0000000, false) := by decide
theorem test_cvtqi : after (.cvtqi 0xFFFFF000) State.reset State.sat = some (.result 0xFFFFFFFF, false) := by decide
theorem test_cvtqi_sat : after (.cvtqi 0xEFFFEFFF) State.reset State.sat = some (.result 0xFFFF8000, true) := by decide

-- 95_test_vectors.md section 4
theorem test_wkind : after (.wkind 2 6) State.reset (fun t => t.shKind[2]) = some (.result 0, 6) := by decide
theorem test_wcoef : after (.wcoef 19 3 7) State.reset (fun t => t.shCoef[19]) = some (.result 0, ⟨0, 0, 0, 7, 0, 0⟩) := by
  decide
theorem test_wnst : after (.wnst 20) State.reset State.shNst = some (.result 0, 20) := by decide
theorem test_rscoef : after (.rscoef 0 4) endOfP2 State.err = some (.result 0xF8000000, false) := by decide
theorem test_rskind : after (.rskind 0) State.reset State.err = some (.result 0x0000000F, false) := by decide
theorem test_rnst : after (.rnst 1) { State.reset with acNst := 3, shNst := 4 } State.err = some (.result 3, false) := by
  decide
theorem test_rnst_shadow : after (.rnst 0) { State.reset with acNst := 3, shNst := 4 } State.err = some (.result 4, false) := by
  decide
theorem test_racoef : after (.racoef 0 3) endOfP2 State.err = some (.result 0x10000000, false) := by decide
theorem test_rakind : after (.rakind 0) endOfP2 State.err = some (.result 9, false) := by decide
theorem test_rstate_left : after (.rstate 0 1) endOfP2 State.err = some (.result 0x04000000, false) := by decide
theorem test_rstate_right : after (.rstate 0 7) endOfP2 State.err = some (.result 0xFE000000, false) := by decide
theorem test_commit :
    after .commit { State.reset with shNst := 1, shKind := State.reset.shKind.set 0 0 } State.commitPending =
      some (.result 0, true) := by decide
theorem test_rstst : after (.rstst 3) State.reset State.rstPend = some (.result 0, State.reset.rstPend.set 3 true) := by
  decide
theorem test_rstall : after .rstall State.reset resetPending = some (.result 0, true) := by decide

-- programs P2, P3 and P5
theorem test_idle : after .idle busyState State.commitPending = some (.outputs 0 0, true) := by decide
theorem test_sample_one_pole :
    after (.sample 0x02000000 0x08000000)
      (oneStage onePole ⟨⟨0x04000000, 0x08000000, 0x04000000, 0x04000000⟩, ⟨0, 0xF8000000, 0xFE000000, 0xFC000000⟩⟩)
      (fun t => t.st[0]) = some (.outputs 0x03000000 0x03000000, endOfP2.st[0]) := by
  decide
/-- The chain order vector of 95_test_vectors.md section 3: B then A gives 1. -/
theorem test_sample_order :
    after (.sample 1 0) { State.reset with
        acNst := 2
        acCoef := (State.reset.acCoef.set 0 ⟨0x30000000, 0, 0, 0x10000000, 0, 0⟩).set 1 ⟨0x08000000, 0, 0, 0x10000000, 0, 0⟩ }
      (fun t => (t.st[1].left, t.dsat)) = some (.outputs 1 0, ⟨3, 0, 1, 0⟩, false) := by
  decide
theorem test_sample16_saturates :
    after (.sample16 0x00003000 0x00007FFF) (oneStage ⟨0x20000000, 0, 0, 0x10000000, 0, 0⟩ zeroStage)
      (fun t => (t.st[0], t.dsat)) =
      some (.outputs 0x00006000 0x00007FFF,
        ⟨⟨0x06000000, 0, 0x0C000000, 0⟩, ⟨0x0FFFE000, 0, 0x1FFFC000, 0⟩⟩, true) := by
  decide
/-- Program P3 line 5: the replay of a CUSTOMIIR stage whose b0 changed. -/
theorem test_boundary_replays :
    after .boundary { endOfP2 with
        shCoef := endOfP2.shCoef.set 0 ⟨0x04000000, 0, 0, 0x10000000, 0xF8000000, 0⟩
        commitPending := true }
      (fun t => (t.st[0], t.commitPending)) =
      some (.outputs 0 0,
        ⟨⟨0x02000000, 0x04000000, 0x01000000, 0x01000000⟩, ⟨0x08000000, 0, 0x02000000, 0⟩⟩, false) := by
  decide
/-- Program P3 line 11: a requested state reset. -/
theorem test_boundary_resets :
    after .boundary { endOfP2 with rstPend := endOfP2.rstPend.set 0 true } (fun t => (t.st[0], resetPending t)) =
      some (.outputs 0 0, zeroStage, false) := by
  decide

/-! ### The step and the host's words -/

/-- The host's word of a command row runs as the first instruction after reset: WNST 20, DATA in bits 63..32. -/
theorem test_fetch_word_command :
    decodeTableWord 64 0x0000001412000000 = some (.wnst 20) ∧
    see id (step (State.reset.withFetchWord 64 0x0000001412000000)) =
      some { State.reset with shNst := 20, reply := .result 0 } := by
  decide

/-- The host's word of a sample-port row is the code in the low two bits. -/
theorem test_fetch_word_sample :
    decodeTableWord 8 0b10 = some .boundary ∧ decodeTableWord 32 0x23000000 = some .rstat ∧
    see State.reply (step (State.reset.withFetchWord 8 0b01)) = some (.outputs 0 0) := by
  decide

/-- A byte-serial transport sends the least significant byte first (R53). -/
theorem test_byte_order :
    bytesOfWord 0x11010400 = [0x00, 0x04, 0x01, 0x11] ∧ wordOfBytes [0x00, 0x04, 0x01, 0x11] = some 0x11010400 := by
  decide

/-! ### The host's side -/

/-- 1.0, 0.5 and −8 as 64-bit floats, and a value beyond the range (R150, R151). -/
theorem test_from_double :
    fromDouble 0x3FF0000000000000 = some 0x10000000 ∧ fromDouble 0x3FE0000000000000 = some 0x08000000 ∧
    fromDouble 0xC020000000000000 = some 0x80000000 ∧ fromDouble 0x4024000000000000 = some 0x7FFFFFFF ∧
    toDouble 0x10000000 = 0x3FF0000000000000 := by
  decide

/-- The PEAKING design of 95_test_vectors.md S7, from the intermediate values of R142 to sixteen digits. -/
theorem test_peaking_design :
    designWords kindPeaking
      { cosW := 9914448613738104 / 10000000000000000
        sinW := 1305261922200516 / 10000000000000000
        alpha := 652630961100258 / 10000000000000000
        gain := 14125375446227544 / 10000000000000000
        rootGain := 11885022274370185 / 10000000000000000 } =
      some ⟨0x10B40827, 0xE1ACC42D, 0x0DE230C3, 0x10000000, 0xE1ACC42D, 0x0E9638EA⟩ := by
  decide +kernel

/-- Assembly text of R78. -/
theorem test_asm : asm (.wcoef 0 4 0xF8000000) = "WCOEF 0, a1, 0xF8000000" := by decide +kernel

/-! ### Witnesses: concrete states and operands that meet the hypotheses of each claim -/

/-- Every kind, word and length in use: 20 stages of kind 9, all but stage 19's shadow kind set. -/
def fullShadow (last : Kind) : State :=
  { State.reset with shNst := 20, acNst := 20, shKind := (Vector.replicate 20 9).set 19 last, acKind := Vector.replicate 20 9 }

/-- A commit is pending over the end state of program P2: stage 0 has a changed b0, stage 1 is new. -/
def beforeSwap : State :=
  { endOfP2 with
    shCoef := endOfP2.shCoef.set 0 ⟨0x04000000, 0, 0, 0x10000000, 0xF8000000, 0⟩
    shKind := endOfP2.shKind.set 1 6
    shNst := 2
    rstPend := endOfP2.rstPend.set 1 true
    commitPending := true }

/-- Two events to come: LDA 5, then a RESET. -/
def twoEvents (s : State) : State := { s with pending := [.transaction (.command 0x01000000 5), .reset] }

theorem witness_CommandWordHasOneMeaning : decode (.command 0x11130500 7) = .ok (.wcoef 19 5 7) := rfl

theorem witness_CommandWordHasOneMeaning_ignored :
    decode (.command 0x13130500 7) = .ok (.rscoef 19 5) ∧ encode (.rscoef 19 5) = .command 0x13130500 0 := ⟨rfl, rfl⟩

theorem witness_CommandWordsClassified_opcode :
    ∀ row ∈ r74Rows, row.1 ≠ (0x0A000000 : Word).extractLsb' 24 8 := by decide

theorem witness_CommandWordsClassified_fields :
    (0x10, 0xFF00FFFF, 0) ∈ r74Rows ∧ (0x10000001 : Word) &&& 0xFF00FFFF ≠ (0x10 : BitVec 8).zeroExtend 32 <<< 24 ∧
    (0x10140000 : Word) &&& 0xFF00FFFF = (0x10 : BitVec 8).zeroExtend 32 <<< 24 ∧
    20 ≤ ((0x10140000 : Word).extractLsb' 16 8).toNat := by decide

theorem witness_CommandWordsClassified_ranges :
    (0x11, 0xFF0000FF, 5) ∈ r74Rows ∧ (0x11130600 : Word) &&& 0xFF0000FF = (0x11 : BitVec 8).zeroExtend 32 <<< 24 ∧
    ((0x11130600 : Word).extractLsb' 16 8).toNat < 20 ∧ 5 < ((0x11130600 : Word).extractLsb' 8 8).toNat ∧
    (0x11130500 : Word) &&& 0xFF0000FF = (0x11 : BitVec 8).zeroExtend 32 <<< 24 ∧
    ((0x11130500 : Word).extractLsb' 16 8).toNat < 20 ∧ ((0x11130500 : Word).extractLsb' 8 8).toNat ≤ 5 := by decide

theorem witness_StepRunsDecodedTransaction :
    (twoEvents State.reset).pending = [.transaction (.command 0x01000000 5), .reset] ∧
    decode (.command 0x01000000 5) = .ok (.lda 5) := ⟨rfl, rfl⟩

theorem witness_StepOfRefusedWordOrOfNothing :
    (State.reset.offer (.command 0x0A000000 0)).pending = [.transaction (.command 0x0A000000 0)] ∧
    decode (.command 0x0A000000 0) = .error .illegalOpcode ∧ State.reset.pending = [] := ⟨rfl, rfl, rfl⟩

theorem beforeSwap_inv : Inv beforeSwap where
  shNst_le := by decide
  acNst_le := by decide
  shKind_legal := by unfold KindLegal; decide
  acKind_legal := by unfold KindLegal; decide
  errCode_le := by decide
  errCode_none_iff := by decide
  pending_complete := by decide
  active_has_kind := by decide
  unapplied_zero := by decide

theorem witness_StepKeepsInvariant : Inv beforeSwap ∧ step beforeSwap = .next beforeSwap := ⟨beforeSwap_inv, rfl⟩

theorem witness_StepKeepsInvariant_boundary :
    see State.st (step (beforeSwap.offer (.sample 0b10 0 0))) ≠ some beforeSwap.st := by decide

theorem witness_ResetEventResets :
    ({ beforeSwap with pending := [.reset, .reset] } : State).pending = .reset :: [.reset] := rfl

theorem witness_RefusalIsPrecise :
    step (State.reset.offer (.command 0x10000000 10)) = .next (refusedWith 0x05 State.reset) ∧
    State.reset.err = false ∧ (refusedWith 0x05 State.reset).err = true := ⟨rfl, rfl, rfl⟩

theorem witness_FirstErrorCodeIsKept :
    (refusedWith 0x05 State.reset).err = true ∧
    Event.keepsError (.transaction (.command 0xFF000000 0)) ∧
    see State.errCode (step ((refusedWith 0x05 State.reset).offer (.command 0xFF000000 0))) = some 0x05 := by
  unfold Event.keepsError
  decide

theorem witness_ShadowWritesAreBusy :
    beforeSwap.commitPending = true ∧ (19 : BitVec 8).toNat < 20 ∧ (5 : BitVec 8).toNat < 6 := by decide

theorem witness_ProductSaturation :
    reduceProduct hwParams.mulRound ((0x20000000 : Word).toInt * (0x40000000 : Word).toInt) > 2 ^ 31 - 1 ∧
    reduceProduct hwParams.mulRound ((0x80000000 : Word).toInt * (0x10000001 : Word).toInt) < -(2 ^ 31) ∧
    reduceProduct hwParams.mulRound ((0x7FFFFFFF : Word).toInt * (0x10000000 : Word).toInt) = 2 ^ 31 - 1 ∧
    reduceProduct hwParams.mulRound ((0x80000000 : Word).toInt * (0x10000000 : Word).toInt) = -(2 ^ 31) ∧
    hwParams.mulRound = .floor := by decide

theorem witness_MultiplicationLaws :
    |(0x0FFFFFFF : Word).toInt| < 2 ^ 28 ∧ |(0xF0000001 : Word).toInt| < 2 ^ 28 ∧
    (⟨.halfAway, .satFinal⟩ : Config.Params).mulRound ≠ .floor ∧
    (qMul ⟨.halfAway, .satFinal⟩ 0xF8000000 1).sat = false ∧ (qMul ⟨.halfAway, .satFinal⟩ 0xF8000000 1).word ≠ 0 ∧
    (0xFFFFFFFF : Word).toInt * (0x00000001 : Word).toInt < 0 := by decide

theorem witness_MacAddsProduct :
    (2 ^ 31 - 1) * 2 ^ 28 / 2 ^ 28 = ({ State.reset with opa := 0x7FFFFFFF } : State).opa.toInt * (0x10000000 : Word).toInt / 2 ^ 28 ∧
    2 ^ 31 - 1 = clampTo 32 (2 ^ 31 - 1) ∧ 2 ^ 31 - 1 = State.reset.acc.toInt + (2 ^ 31 - 1) := by decide

theorem witness_MsuSubtractsProduct :
    -(2 ^ 31) - 8 = ({ State.reset with opa := 0x80000000 } : State).opa.toInt * (0x10000001 : Word).toInt / 2 ^ 28 ∧
    -(2 ^ 31) = clampTo 32 (-(2 ^ 31) - 8) ∧ 2 ^ 31 = State.reset.acc.toInt - -(2 ^ 31) := by decide

theorem witness_AccumulatorHoldsFullScaleProducts :
    ({ State.reset with opa := 0x7FFFFFFF, acc := 0x7F7FFFFF01 } : State).acc.toInt = (255 : Nat) * (2 ^ 31 - 1) ∧
    ({ State.reset with opa := 0x7FFFFFFF, acc := 0x7FFFFFFF00 } : State).acc.toInt = (256 : Nat) * (2 ^ 31 - 1) ∧
    State.reset.acc.toInt = (0 : Nat) * (2 ^ 31 - 1) := by decide

theorem witness_StageStepEquation :
    (0x0C0000000 : Int) = (qMul hwParams 0x40000000 0x18000000).word.toInt - (qMul hwParams 0 0).word.toInt +
      (qMul hwParams 0x40000000 0x18000000).word.toInt - (qMul hwParams 0 0).word.toInt + (qMul hwParams 0 0).word.toInt ∧
    hwParams.sumMode = .satFinal ∧ (⟨.floor, .wrap32⟩ : Config.Params).sumMode = .wrap32 := by decide

theorem witness_A0NeverReachesTheOutput :
    ∀ i : StageIdx, (endOfP2.acCoef.set 0 { onePole with a0 := 0x12345678 })[i] =
      { endOfP2.acCoef[i] with a0 := if i = 0 then 0x12345678 else 0 } := by decide

theorem witness_StageStepCornerCases : (⟨0x7FFFFFFF, 0, 0, 0x10000000, 0, 0⟩ : Coeffs).b0 = 0x7FFFFFFF := rfl

theorem witness_SampleRunsTheChain :
    (fullShadow 9).acNst.toNat ≤ 20 ∧ (19 : StageIdx).val < (fullShadow 9).acNst.toNat ∧
    endOfP2.acNst.toNat ≤ (1 : StageIdx).val := by decide

theorem witness_EmptyChainPassesThrough : State.reset.acNst = 0 := rfl

theorem witness_LanesDoNotInteract :
    let u := oneStage onePole ⟨⟨0x02000000, 0x04000000, 0x03000000, 0x04000000⟩, zeroBq⟩
    let v := oneStage onePole ⟨zeroBq, ⟨0x08000000, 0, 0x03000000, 0xFE000000⟩⟩
    endOfP2.acCoef = u.acCoef ∧ endOfP2.acNst = u.acNst ∧ endOfP2.acCoef = v.acCoef ∧ endOfP2.acNst = v.acNst ∧
    (∀ i : StageIdx, endOfP2.st[i].left = u.st[i].left) ∧ (∀ i : StageIdx, endOfP2.st[i].right = v.st[i].right) := by
  decide

theorem witness_WkindWritesShadowKind :
    (19 : BitVec 8).toNat = (19 : StageIdx).val ∧ (9 : Word).toNat ≤ 9 ∧ 9 < (10 : Word).toNat ∧
    20 ≤ (20 : BitVec 8).toNat ∧ (19 : BitVec 8).toNat < 20 ∧ State.reset.commitPending = false ∧
    beforeSwap.commitPending = true := by decide

theorem witness_WcoefWritesShadowWord :
    (19 : BitVec 8).toNat = (19 : StageIdx).val ∧ (5 : BitVec 8).toNat < 6 ∧ 5 < (6 : BitVec 8).toNat ∧
    20 ≤ (20 : BitVec 8).toNat ∧ (19 : BitVec 8).toNat < 20 ∧ State.reset.commitPending = false ∧
    beforeSwap.commitPending = true := by decide

theorem witness_WnstWritesShadowLength :
    (20 : Word).toNat ≤ 20 ∧ 20 < (21 : Word).toNat ∧ State.reset.commitPending = false ∧
    beforeSwap.commitPending = true := by decide

theorem witness_CoefficientReads :
    (19 : BitVec 8).toNat = (19 : StageIdx).val ∧ (5 : BitVec 8).toNat < 6 ∧ 5 < (6 : BitVec 8).toNat ∧
    20 ≤ (20 : BitVec 8).toNat ∧ (19 : BitVec 8).toNat < 20 := by decide

theorem witness_KindReads : (0 : BitVec 8).toNat = (0 : StageIdx).val ∧ 20 ≤ (255 : BitVec 8).toNat := by decide

theorem witness_ChainLengthReads :
    (0 : BitVec 8).toNat = 0 ∧ (1 : BitVec 8).toNat = 1 ∧ 1 < (2 : BitVec 8).toNat := by decide

theorem witness_StateReads :
    (19 : BitVec 8).toNat = (19 : StageIdx).val ∧ (7 : BitVec 8).toNat < 8 ∧ 7 < (8 : BitVec 8).toNat ∧
    20 ≤ (20 : BitVec 8).toNat ∧ (19 : BitVec 8).toNat < 20 := by decide

theorem witness_CoefficientReadAfterWrite :
    State.reset.commitPending = false ∧ (19 : BitVec 8).toNat < 20 ∧ (5 : BitVec 8).toNat < 6 ∧ (0 : BitVec 8).toNat < 20 ∧
    ¬ ((0 : BitVec 8) = 19 ∧ (5 : BitVec 8) = 5) := by decide

theorem witness_CommitRequestsSwap :
    (fullShadow 9).shNst.toNat ≤ 20 ∧
    (∀ i : StageIdx, i.val < (fullShadow 9).shNst.toNat → (fullShadow 9).shKind[i] ≠ 0xF) ∧
    (fullShadow 0xF).shNst.toNat ≤ 20 ∧ (19 : StageIdx).val < (fullShadow 0xF).shNst.toNat ∧
    (fullShadow 0xF).shKind[(19 : StageIdx)] = 0xF := by decide

theorem witness_ResetRequests : (19 : BitVec 8).toNat = (19 : StageIdx).val ∧ 20 ≤ (20 : BitVec 8).toNat := by decide

theorem witness_BoundaryAppliesCommit :
    beforeSwap.commitPending = true ∧ beforeSwap.shNst.toNat ≤ 20 ∧
    (0 : StageIdx).val < beforeSwap.shNst.toNat ∧ beforeSwap.rstPend[(0 : StageIdx)] = false ∧ ReplayDue beforeSwap 0 ∧
    beforeSwap.rstPend[(1 : StageIdx)] = true ∧ beforeSwap.shNst.toNat ≤ (2 : StageIdx).val ∧
    beforeSwap.rstPend[(2 : StageIdx)] = false := by
  unfold ReplayDue
  decide

theorem witness_BoundaryAppliesCommit_not_due :
    ({ endOfP2 with commitPending := true } : State).shNst.toNat ≤ 20 ∧
    (0 : StageIdx).val < endOfP2.shNst.toNat ∧ endOfP2.rstPend[(0 : StageIdx)] = false ∧
    ¬ ReplayDue { endOfP2 with commitPending := true } 0 := by
  unfold ReplayDue
  decide

theorem witness_BoundaryAppliesResets :
    State.reset.commitPending = false ∧ (∀ i : StageIdx, State.reset.rstPend[i] = false) ∧
    ({ endOfP2 with rstPend := endOfP2.rstPend.set 0 true } : State).rstPend[(0 : StageIdx)] = true := by decide

theorem witness_ReplayClosedForm :
    (0x02000000 : Word) = (bqSum hwParams.sumMode
      (qMul hwParams endOfP2.acCoef[(0 : StageIdx)].b0 (endOfP2.st[(0 : StageIdx)].lane .left).x2).word.toInt).word ∧
    (0x02000000 : Word) = (bqSum hwParams.sumMode
      ((qMul hwParams endOfP2.acCoef[(0 : StageIdx)].b0 (endOfP2.st[(0 : StageIdx)].lane .left).x1).word.toInt
        - (qMul hwParams endOfP2.acCoef[(0 : StageIdx)].a1 0x02000000).word.toInt
        + (qMul hwParams endOfP2.acCoef[(0 : StageIdx)].b1 (endOfP2.st[(0 : StageIdx)].lane .left).x2).word.toInt)).word ∧
    (State.reset.st[(0 : StageIdx)].lane .left).x1 = 0 ∧ (State.reset.st[(0 : StageIdx)].lane .left).x2 = 0 := by decide

theorem witness_SecondCommitChangesNothing : beforeSwap.commitPending = true := rfl

theorem witness_ActiveBankChangesOnlyAtBoundary :
    Event.keepsActive (.transaction (.command 0x01000000 5)) ∧
    see State.opa (step (beforeSwap.offer (.command 0x01000000 5))) = some 5 ∧ beforeSwap.commitPending = true ∧
    beforeSwap.rstPend[(1 : StageIdx)] = true := by
  unfold Event.keepsActive
  decide

theorem witness_PendingCommitWaitsForBoundary :
    (beforeSwap.offer (.sample 0b01 1 2)).commitPending = true ∧
    ∀ e ∈ (beforeSwap.offer (.sample 0b01 1 2)).pending, e.keepsActive := by
  unfold Event.keepsActive
  decide

theorem witness_RegistersAreWrittenOnlyBy :
    exec (.lda 1) State.reset = .next { State.reset with opa := 1, reply := .result 0 } ∧
    ({ State.reset with opa := 1, reply := .result 0 } : State).opa ≠ State.reset.opa := ⟨rfl, by decide⟩

theorem witness_RegistersAreWrittenOnlyBy_boundary :
    see (fun t => (decide (t.acCoef ≠ beforeSwap.acCoef), decide (t.acKind ≠ beforeSwap.acKind), t.acNst))
      (exec .boundary beforeSwap) = some (true, true, 2) ∧ beforeSwap.acNst = 1 := by decide

theorem witness_RegistersAreWrittenOnlyBy_refusal :
    exec (.wkind 0 10) State.reset = .next (refusedWith 0x05 State.reset) ∧ State.reset.err = false ∧
    (refusedWith 0x05 State.reset).err ≠ State.reset.err ∧ (refusedWith 0x05 State.reset).errCode ≠ State.reset.errCode :=
  ⟨rfl, rfl, by decide, by decide⟩

theorem witness_FromDoubleRounds :
    doubleExponent 0x4170000000000000 = 1047 ∧ doubleExponent 0x7FEFFFFFFFFFFFFF = 2046 ∧
    doubleExponent 0x416FFFFFFFFFFFFF = 1046 ∧ doubleExponent 0x0000000000000001 = 0 ∧
    doubleExponent 0x7FF8000000000000 = 2047 ∧ doubleFraction 0x7FF8000000000000 ≠ 0 := by decide

end Sys2Proof.Tests
end

/-! What the state holds after reset (10_state.md R39). -/

namespace Sys2Proof.Machine

/-! ### The indexed memories after reset, read at a stage -/

theorem reset_shCoef_stage (i : StageIdx) : State.reset.shCoef[i] = zeroCoeffs :=
  Vector.getElem_replicate i.isLt

theorem reset_shKind_stage (i : StageIdx) : State.reset.shKind[i] = kindNone :=
  Vector.getElem_replicate i.isLt

theorem reset_acCoef_stage (i : StageIdx) : State.reset.acCoef[i] = zeroCoeffs :=
  Vector.getElem_replicate i.isLt

theorem reset_acKind_stage (i : StageIdx) : State.reset.acKind[i] = kindNone :=
  Vector.getElem_replicate i.isLt

theorem reset_st_stage (i : StageIdx) : State.reset.st[i] = zeroStage :=
  Vector.getElem_replicate i.isLt

theorem reset_rstPend_stage (i : StageIdx) : State.reset.rstPend[i] = false :=
  Vector.getElem_replicate i.isLt

/-- R37, R252: the identity word's four bytes, with `F = 28` and `MAX_STAGES = 20`. -/
theorem identWord_eq : identWord = 0x421C1401 := by decide

/-- Settles O11: the scalar registers by the definition of the reset state, the memories one stage at a time. -/
theorem resetValues : Obligations.ResetValues := by
  unfold Obligations.ResetValues
  exact ⟨rfl, rfl,
    fun i => ⟨reset_shCoef_stage i, reset_shKind_stage i, reset_acCoef_stage i, reset_acKind_stage i,
      reset_st_stage i, reset_rstPend_stage i⟩,
    rfl, rfl, rfl, rfl, rfl, rfl, rfl, identWord_eq⟩

end Sys2Proof.Machine

/-! The multiplier, accumulator and conversion commands (40_mac.md R101, R110 to R118). -/

namespace Sys2Proof.Machine

/-! ### Encodings (30_encoding.md R74, R75) -/

/-- The decoder's reserved-field check reads the fields R75 (c) names. -/
theorem fieldsClear_iff (r : OpRow) (cmd : Word) :
    r.fieldsClear cmd = true ↔ cmd.extractLsb' 0 8 = 0 ∧ (r.usesStg = true ∨ cmd.extractLsb' 16 8 = 0) ∧
      (r.usesSel = true ∨ cmd.extractLsb' 8 8 = 0) := by
  simp only [OpRow.fieldsClear, rsvField, stgField, selField, Bool.and_eq_true, Bool.or_eq_true, beq_iff_eq, and_assoc]

/-- A row of the opcode map encodes the instruction it builds, with the fields it uses. -/
theorem commandEncoding_of_row {opc : BitVec 8} {r : OpRow} (row : rowOf opc = some r) :
    CommandEncoding opc r.usesStg r.usesSel r.build := by
  intro cmd data hopc
  have found : rowOf (opcField cmd) = some r := by rw [opcField, hopc, row]
  simp only [decode, decodeCommand, found, fieldsClear_iff, stgField, selField]

/-! ### The reductions (R9, R101) -/

theorem two_pow_int_pos (k : Nat) : (0 : Int) < 2 ^ k := Int.pow_pos (by decide)

theorem floorDiv_mul_le (n : Int) (k : Nat) : floorDiv n k * 2 ^ k ≤ n :=
  Int.ediv_mul_le n (two_pow_int_pos k).ne'

theorem lt_floorDiv_add_one_mul (n : Int) (k : Nat) : n < (floorDiv n k + 1) * 2 ^ k :=
  Int.lt_ediv_add_one_mul_self n (two_pow_int_pos k)

theorem tzDiv_of_nonneg {n : Int} (h : 0 ≤ n) (k : Nat) : tzDiv n k = floorDiv n k :=
  Int.tdiv_eq_ediv_of_nonneg h

theorem tzDiv_neg (n : Int) (k : Nat) : tzDiv (-n) k = -tzDiv n k := Int.neg_tdiv _ _

theorem rhaDiv_of_nonneg {n : Int} (h : 0 ≤ n) {k : Nat} (hk : 0 < k) :
    rhaDiv n k = floorDiv (n + 2 ^ (k - 1)) k := by
  rcases h.eq_or_lt with rfl | pos
  · have lt : (2 : Int) ^ (k - 1) < 2 ^ k := pow_lt_pow_right₀ (by decide) (by omega)
    rw [rhaDiv, floorDiv, Int.sign_zero, zero_mul, floorDiv, zero_add,
      Int.ediv_eq_zero_of_lt (two_pow_int_pos _).le lt]
  · rw [rhaDiv, Int.sign_eq_one_of_pos pos, one_mul, Int.natAbs_of_nonneg h]

theorem rhaDiv_neg (n : Int) (k : Nat) : rhaDiv (-n) k = -rhaDiv n k := by
  rw [rhaDiv, rhaDiv, Int.sign_neg, Int.natAbs_neg, neg_mul]

/-- Rounding half away from zero is symmetric about zero. -/
theorem NearestAway.neg {n r : Int} {k : Nat} (h : NearestAway n k r) : NearestAway (-n) k (-r) := by
  have e : -n - -r * 2 ^ k = -(n - r * 2 ^ k) := by ring
  rwa [NearestAway, e, neg_mul, abs_neg, abs_neg, abs_neg]

/-- `tz_div` keeps the sign, does not exceed the magnitude, and misses it by less than one unit (R9). -/
theorem tzDiv_truncates (n : Int) (k : Nat) :
    |tzDiv n k * 2 ^ k| ≤ |n| ∧ |n| < |tzDiv n k * 2 ^ k| + 2 ^ k ∧ 0 ≤ tzDiv n k * n := by
  have nonneg : ∀ m : Int, 0 ≤ m →
      |tzDiv m k * 2 ^ k| ≤ |m| ∧ |m| < |tzDiv m k * 2 ^ k| + 2 ^ k ∧ 0 ≤ tzDiv m k * m := by
    intro m hm
    have hq : 0 ≤ floorDiv m k := Int.ediv_nonneg hm (two_pow_int_pos k).le
    have lt := lt_floorDiv_add_one_mul m k
    rw [add_mul, one_mul] at lt
    rw [tzDiv_of_nonneg hm, abs_of_nonneg hm, abs_of_nonneg (mul_nonneg hq (two_pow_int_pos k).le)]
    exact ⟨floorDiv_mul_le m k, lt, mul_nonneg hq hm⟩
  rcases le_total 0 n with h | h
  · exact nonneg n h
  · simpa only [tzDiv_neg, neg_mul, abs_neg, mul_neg, neg_neg] using nonneg (-n) (neg_nonneg.mpr h)

/-- `rha_div` rounds to the nearest integer, halves away from zero (R9), wherever there is a fractional bit to remove. -/
theorem nearestAway_rhaDiv (n : Int) {k : Nat} (hk : 0 < k) : NearestAway n k (rhaDiv n k) := by
  have nonneg : ∀ m : Int, 0 ≤ m → NearestAway m k (rhaDiv m k) := by
    intro m hm
    have half : (2 : Int) ^ k = 2 * 2 ^ (k - 1) := by rw [← pow_succ', Nat.sub_add_cancel hk]
    have hp := two_pow_int_pos (k - 1)
    have le := floorDiv_mul_le (m + 2 ^ (k - 1)) k
    have lt := lt_floorDiv_add_one_mul (m + 2 ^ (k - 1)) k
    rw [add_mul, one_mul] at lt
    rw [rhaDiv_of_nonneg hm hk, NearestAway]
    generalize floorDiv (m + 2 ^ (k - 1)) k * 2 ^ k = q at le lt ⊢
    have near : |m - q| ≤ 2 ^ (k - 1) := abs_le.mpr ⟨by omega, by omega⟩
    -- above the result the distance stays below half a unit, so an exact half lies below the result
    have tie (h : |m - q| = 2 ^ (k - 1)) : m ≤ q := by
      rcases abs_eq hp.le |>.mp h with above | below <;> omega
    exact ⟨by omega, fun h => by
      rw [abs_of_nonneg hm]
      exact (tie (by omega)).trans (le_abs_self q)⟩
  rcases le_total 0 n with h | h
  · exact nonneg n h
  · simpa only [rhaDiv_neg, neg_neg] using (nonneg (-n) (neg_nonneg.mpr h)).neg

/-- Settles O16: each reduction is its integer primitive at `k = 28`. -/
theorem reductionRounds : Obligations.ReductionRounds := by
  unfold Obligations.ReductionRounds
  exact fun p => ⟨⟨floorDiv_mul_le p 28, lt_floorDiv_add_one_mul p 28⟩, tzDiv_truncates p 28,
    nearestAway_rhaDiv p (by decide)⟩

/-! ### The arithmetic of this hardware (R100, R101, R103) -/

/-- `QMul` of this hardware (R100, R101 FLOOR): the floored product, clamped, and whether clamping changed it. -/
theorem qMul_hwParams (a b : Word) :
    qMul hwParams a b = ⟨BitVec.ofInt 32 (clampTo 32 (a.toInt * b.toInt / 2 ^ 28)),
      decide (clampTo 32 (a.toInt * b.toInt / 2 ^ 28) ≠ a.toInt * b.toInt / 2 ^ 28)⟩ :=
  satTo_eq 32 (a.toInt * b.toInt / 2 ^ 28)

theorem qMul_hwParams_word_toInt (a b : Word) :
    (qMul hwParams a b).word.toInt = clampTo 32 (a.toInt * b.toInt / 2 ^ 28) :=
  qMul_word_toInt hwParams a b

theorem accAdd_eq (acc : BitVec Config.accBits) (d : Int) :
    accAdd acc d = ⟨BitVec.ofInt 40 (clampTo 40 (acc.toInt + d)), decide (clampTo 40 (acc.toInt + d) ≠ acc.toInt + d)⟩ :=
  satTo_eq 40 (acc.toInt + d)

theorem accRead_eq (acc : BitVec Config.accBits) :
    accRead acc = ⟨BitVec.ofInt 32 (clampTo 32 acc.toInt), decide (clampTo 32 acc.toInt ≠ acc.toInt)⟩ :=
  satTo_eq 32 acc.toInt

/-- Sign extension to the accumulator keeps the value (R116). -/
theorem accOfWord_toInt (d : Word) : (accOfWord d).toInt = d.toInt :=
  BitVec.toInt_signExtend_of_le (by decide)

/-- Scaling a 16-bit sample by 2^13 never leaves the FixedValue range (R104). -/
theorem fromI16_toInt (h : BitVec 16) : (fromI16 h).toInt = h.toInt * 8192 := by
  have lo := h.le_toInt
  have hi := h.toInt_lt
  exact toInt_ofInt_of_mem (n := h.toInt * 8192) (by decide) (by omega) (by omega)

theorem toI16_sat (v : Word) : (toI16 v).sat = decide (clampTo 16 (rhaDiv v.toInt 13) ≠ rhaDiv v.toInt 13) := by
  rw [toI16, satTo_eq]

/-- The converted sample, sign-extended, is the word of the clamped value (R118). -/
theorem sextSample_toI16 (v : Word) :
    sextSample (toI16 v).word = BitVec.ofInt 32 (clampTo 16 (rhaDiv v.toInt 13)) := by
  obtain ⟨lo, hi⟩ := clampTo_mem 16 (rhaDiv v.toInt 13)
  apply BitVec.eq_of_toInt_eq
  rw [sextSample, BitVec.toInt_signExtend_of_le (by decide), toI16_word_toInt,
    toInt_ofInt_of_mem (by decide) (by omega) (by omega)]

/-! ### The commands (R110 to R118): what each answers, over the named updates of the state -/

theorem exec_lda (d : Word) (s : State) : exec (.lda d) s = .next ((s.setOpa d).withResult 0) := rfl

theorem exec_qmul (d : Word) (s : State) :
    exec (.qmul d) s = .next ((s.orSat (qMul hwParams s.opa d).sat).withResult (qMul hwParams s.opa d).word) := rfl

theorem exec_mac (d : Word) (s : State) :
    exec (.mac d) s = .next (((s.setAcc (accAdd s.acc (qMul hwParams s.opa d).word.toInt).word).orSat
      ((qMul hwParams s.opa d).sat || (accAdd s.acc (qMul hwParams s.opa d).word.toInt).sat)).withResult 0) := rfl

theorem exec_msu (d : Word) (s : State) :
    exec (.msu d) s = .next (((s.setAcc (accAdd s.acc (-(qMul hwParams s.opa d).word.toInt)).word).orSat
      ((qMul hwParams s.opa d).sat || (accAdd s.acc (-(qMul hwParams s.opa d).word.toInt)).sat)).withResult 0) := rfl

theorem exec_aclr (s : State) : exec .aclr s = .next ((s.setAcc 0).withResult 0) := rfl

theorem exec_ard (s : State) :
    exec .ard s = .next ((s.orSat (accRead s.acc).sat).withResult (accRead s.acc).word) := rfl

theorem exec_ald (d : Word) (s : State) : exec (.ald d) s = .next ((s.setAcc (accOfWord d)).withResult 0) := rfl

theorem exec_cvtiq (d : Word) (s : State) :
    exec (.cvtiq d) s = .next (s.withResult (fromI16 (sampleOperand d))) := rfl

theorem exec_cvtqi (d : Word) (s : State) :
    exec (.cvtqi d) s = .next ((s.orSat (toI16 d).sat).withResult (sextSample (toI16 d).word)) := rfl

/-- Settles O20: the encoding is the row of opcode 0x02; the product is that of `qMul_hwParams`. -/
theorem qmulReturnsProduct : Obligations.QmulReturnsProduct := by
  unfold Obligations.QmulReturnsProduct
  refine ⟨commandEncoding_of_row (r := ⟨0x02, false, false, fun _ _ d => .qmul d⟩) rfl, fun s d => ?_⟩
  rw [exec_qmul, qMul_hwParams]
  rfl

/-- Settles O21: the saturated product is added, and the two saturation indications are joined in SAT. -/
theorem macAddsProduct : Obligations.MacAddsProduct := by
  unfold Obligations.MacAddsProduct
  refine ⟨commandEncoding_of_row (r := ⟨0x03, false, false, fun _ _ d => .mac d⟩) rfl, ?_⟩
  rintro s d q w n rfl rfl rfl
  rw [exec_mac, accAdd_eq, qMul_hwParams_word_toInt, qMul_hwParams, Bool.or_assoc]
  rfl

/-- Settles O22: as MAC, with the product's value negated. -/
theorem msuSubtractsProduct : Obligations.MsuSubtractsProduct := by
  unfold Obligations.MsuSubtractsProduct
  refine ⟨commandEncoding_of_row (r := ⟨0x04, false, false, fun _ _ d => .msu d⟩) rfl, ?_⟩
  rintro s d q w n rfl rfl rfl
  rw [exec_msu, accAdd_eq, ← sub_eq_add_neg, qMul_hwParams_word_toInt, qMul_hwParams, Bool.or_assoc]
  rfl

/-- Settles O25: the answer is `AccRead` of ACC, by `accRead_eq`. -/
theorem ardReadsAccumulator : Obligations.ArdReadsAccumulator := by
  unfold Obligations.ArdReadsAccumulator
  refine ⟨commandEncoding_of_row (r := ⟨0x06, false, false, fun _ _ _ => .ard⟩) rfl, fun s => ?_⟩
  rw [exec_ard, accRead_eq]
  rfl

/-- Settles O26: the loaded word is DATA sign-extended, which keeps its value. -/
theorem aldLoadsAccumulator : Obligations.AldLoadsAccumulator := by
  unfold Obligations.AldLoadsAccumulator
  exact ⟨commandEncoding_of_row (r := ⟨0x07, false, false, fun _ _ d => .ald d⟩) rfl,
    fun s d => ⟨accOfWord d, accOfWord_toInt d, exec_ald d s⟩⟩

/-- Settles O27: the answer is `FromI16` of the low half of DATA alone. -/
theorem cvtiqScalesSample : Obligations.CvtiqScalesSample := by
  unfold Obligations.CvtiqScalesSample
  exact ⟨commandEncoding_of_row (r := ⟨0x08, false, false, fun _ _ d => .cvtiq d⟩) rfl,
    fun s d => ⟨fromI16 (sampleOperand d), fromI16_toInt _, exec_cvtiq d s⟩⟩

/-- Settles O28: the rounded value is `rha_div(DATA, 2^13)`. -/
theorem cvtqiRoundsToSample : Obligations.CvtqiRoundsToSample := by
  unfold Obligations.CvtqiRoundsToSample
  refine ⟨commandEncoding_of_row (r := ⟨0x09, false, false, fun _ _ d => .cvtqi d⟩) rfl,
    fun s d => ⟨rhaDiv d.toInt 13, nearestAway_rhaDiv _ (by decide), ?_⟩⟩
  rw [exec_cvtqi, sextSample_toI16, toI16_sat]
  rfl

/-- Settles O19: LDA's meaning is the update of OPA alone. -/
theorem ldaLoadsOperand : Obligations.LdaLoadsOperand := by
  unfold Obligations.LdaLoadsOperand
  exact ⟨commandEncoding_of_row (r := ⟨0x01, false, false, fun _ _ d => .lda d⟩) rfl,
    fun s d => exec_lda d s⟩

/-- Settles O24: ACLR's meaning is the update of ACC alone. -/
theorem aclrClearsAccumulator : Obligations.AclrClearsAccumulator := by
  unfold Obligations.AclrClearsAccumulator
  exact ⟨commandEncoding_of_row (r := ⟨0x05, false, false, fun _ _ _ => .aclr⟩) rfl, exec_aclr⟩

end Sys2Proof.Machine

/-! The biquad stage, the chain run and the sample port (42_biquad.md R170 to R182). -/

namespace Sys2Proof.Machine

/-! ### The stage step (R170 to R173) -/

theorem clampTo_eq_self_iff (w : Nat) (n : Int) : clampTo w n = n ↔ -(2 ^ (w - 1)) ≤ n ∧ n ≤ 2 ^ (w - 1) - 1 :=
  ⟨fun h => h ▸ clampTo_mem w n, fun ⟨lo, hi⟩ => clampTo_of_mem lo hi⟩

/-- In both sum modes the saturation bit says that the exact sum left the range of a word (R170). -/
theorem bqSum_sat (m : Config.SumMode) (n : Int) : (bqSum m n).sat = decide (clampTo 32 n ≠ n) := by
  cases m with
  | satFinal => rw [bqSum, satTo_eq]
  | wrap32 =>
    have range := clampTo_eq_self_iff 32 n
    rw [bqSum, decide_eq_decide, ne_eq, range]
    omega

theorem bqSum_satFinal_toInt (n : Int) : (bqSum .satFinal n).word.toInt = clampTo 32 n :=
  satTo_word_toInt (by decide) n

/-- Settles O30: the stage step puts its sum back by `bqSum`, whose saturation bit is that of `bqSum_sat`. -/
theorem stageStepEquation : Obligations.StageStepEquation := by
  unfold Obligations.StageStepEquation
  rintro ⟨round, mode⟩ C S x n rfl
  refine ⟨rfl, ?_, ?_, ?_⟩
  · rintro rfl
    exact bqSum_satFinal_toInt _
  · rintro rfl
    rfl
  · simp only [bqStep, bqSum_sat, Bool.or_eq_true, decide_eq_true_eq, or_assoc]

/-- The stage step does not read a0 (R172). -/
theorem bqStep_a0 (P : Config.Params) (C : Coeffs) (a : Word) (S : BqState) (x : Word) :
    bqStep P { C with a0 := a } S x = bqStep P C S x := rfl

/-! ### What a chain run depends on (R172, R179) -/

/-- A chain run reads a stage's coefficients only through the stage step. -/
theorem chainFold_congr_coef (P : Config.Params) {coef coef' : Vector Coeffs Config.maxStages}
    (same : ∀ (i : StageIdx) (S : BqState) (x : Word), bqStep P coef[i] S x = bqStep P coef'[i] S x) (c : Channel)
    (l : List StageIdx) (v : Word) (st : Vector StageState Config.maxStages) :
    chainFold P coef c l v st = chainFold P coef' c l v st := by
  induction l generalizing v st with
  | nil => rfl
  | cons i rest ih => simp only [chainFold_cons, same, ih]

/-- What a run of one channel returns and leaves in its lanes depends only on its lanes (R179). -/
theorem chainFold_congr_lanes (P : Config.Params) (coef : Vector Coeffs Config.maxStages) (c : Channel)
    (l : List StageIdx) (v : Word) {st st' : Vector StageState Config.maxStages}
    (same : ∀ i : StageIdx, st[i].lane c = st'[i].lane c) :
    (chainFold P coef c l v st).out = (chainFold P coef c l v st').out ∧
    (chainFold P coef c l v st).sat = (chainFold P coef c l v st').sat ∧
    ∀ i : StageIdx, ((chainFold P coef c l v st).st[i]).lane c = ((chainFold P coef c l v st').st[i]).lane c := by
  induction l generalizing v st st' with
  | nil => exact ⟨rfl, rfl, same⟩
  | cons j rest ih =>
    simp only [chainFold_cons, ← same j]
    have next (b : BqState) (i : StageIdx) :
        ((st.set j (st[j].putLane c b))[i]).lane c = ((st'.set j (st'[j].putLane c b))[i]).lane c := by
      by_cases e : i = j
      · subst e
        rw [set_at, set_at, putLane_lane, putLane_lane]
      · rw [set_at_ne _ e, set_at_ne _ e, same]
    obtain ⟨out, sat, lanes⟩ := ih (bqStep P coef[j] (st[j].lane c) v).y (next _)
    exact ⟨out, by rw [sat], lanes⟩

/-! ### The chain run, stage by stage (R176) -/

/-- The stages before stage `k`, in index order. -/
def firstStages (k : Nat) : List StageIdx := (List.finRange Config.maxStages).filter fun i => i.val < k

theorem stagesBelow_eq_firstStages (n : BitVec 8) : stagesBelow n = firstStages n.toNat := rfl

theorem not_mem_firstStages (i : StageIdx) : i ∉ firstStages i.val := by simp [firstStages]

theorem firstStages_zero : firstStages 0 = [] := by simp [firstStages]

theorem firstStages_succ : ∀ i : StageIdx, firstStages (i.val + 1) = firstStages i.val ++ [i] := by decide

/-- A run with one more stage at its end: that stage steps on the output so far, from the state it had at the start. -/
theorem chainFold_append_singleton (P : Config.Params) (coef : Vector Coeffs Config.maxStages) (c : Channel)
    {i : StageIdx} (l : List StageIdx) (h : i ∉ l) (v : Word) (st : Vector StageState Config.maxStages) :
    chainFold P coef c (l ++ [i]) v st =
      let p := chainFold P coef c l v st
      let r := bqStep P coef[i] (st[i].lane c) p.out
      ⟨r.y, p.st.set i (p.st[i].putLane c r.lane), p.sat || r.sat⟩ := by
  induction l generalizing v st with
  | nil => simp [chainFold_cons]
  | cons j rest ih =>
    rw [List.mem_cons, not_or] at h
    simp only [List.cons_append, chainFold_cons, ih h.2, set_at_ne _ h.1, Bool.or_assoc]

/-- The run of one channel through the stages before stage `k`. -/
def chainUpTo (P : Config.Params) (c : Channel) (x : Word) (s : State) (k : Nat) : ChainOut :=
  chainFold P s.acCoef c (firstStages k) x s.st

/-- What stage `i` does in a run of one channel: a step on the output of the stages before it. -/
def chainStage (P : Config.Params) (c : Channel) (x : Word) (s : State) (i : StageIdx) : BqOut :=
  bqStep P s.acCoef[i] (s.st[i].lane c) (chainUpTo P c x s i.val).out

section chainUpTo
variable (P : Config.Params) (c : Channel) (x : Word) (s : State)

theorem chainRun_eq_chainUpTo : chainRun P c x s = chainUpTo P c x s s.acNst.toNat :=
  congrArg (fun l => chainFold P s.acCoef c l x s.st) (stagesBelow_eq_firstStages s.acNst)

theorem chainUpTo_zero : chainUpTo P c x s 0 = ⟨x, s.st, false⟩ := by
  rw [chainUpTo, firstStages_zero, chainFold_nil]

theorem chainUpTo_succ (i : StageIdx) :
    chainUpTo P c x s (i.val + 1) =
      ⟨(chainStage P c x s i).y,
        (chainUpTo P c x s i.val).st.set i ((chainUpTo P c x s i.val).st[i].putLane c (chainStage P c x s i).lane),
        (chainUpTo P c x s i.val).sat || (chainStage P c x s i).sat⟩ := by
  rw [chainUpTo, firstStages_succ, chainFold_append_singleton P _ c _ (not_mem_firstStages i)]
  rfl

/-- Each stage that was run holds the lane its own step left. -/
theorem chainUpTo_lane {k : Nat} (hk : k ≤ 20) {i : StageIdx} (hi : i.val < k) :
    ((chainUpTo P c x s k).st[i]).lane c = (chainStage P c x s i).lane := by
  induction k with
  | zero => exact absurd hi (Nat.not_lt_zero _)
  | succ k ih =>
    rw [chainUpTo_succ P c x s ⟨k, hk⟩]
    by_cases e : i = ⟨k, hk⟩
    · subst e
      rw [set_at, putLane_lane]
    · have lt : i.val < k := Nat.lt_of_le_of_ne (Nat.le_of_lt_succ hi) fun h => e (Fin.ext h)
      rw [set_at_ne _ e]
      exact ih (Nat.le_of_lt hk) lt

/-- A run saturates exactly when the step of one of its stages does. -/
theorem chainUpTo_sat_iff {k : Nat} (hk : k ≤ 20) :
    (chainUpTo P c x s k).sat = true ↔ ∃ i : StageIdx, i.val < k ∧ (chainStage P c x s i).sat = true := by
  induction k with
  | zero => simp [chainUpTo_zero]
  | succ k ih =>
    rw [chainUpTo_succ P c x s ⟨k, hk⟩, Bool.or_eq_true, ih (Nat.le_of_lt hk)]
    constructor
    · rintro (⟨i, lt, sat⟩ | sat)
      · exact ⟨i, Nat.lt_succ_of_lt lt, sat⟩
      · exact ⟨⟨k, hk⟩, Nat.lt_succ_self k, sat⟩
    · rintro ⟨i, lt, sat⟩
      rcases Nat.lt_succ_iff_lt_or_eq.mp lt with below | last
      · exact .inl ⟨i, below, sat⟩
      · obtain rfl : i = ⟨k, hk⟩ := Fin.ext last
        exact .inr sat

end chainUpTo

/-! ### A stereo sample as one chain run per channel (R179, R180) -/

/-- A channel's word of a pair of port words. -/
def Channel.pick (c : Channel) (l r : Word) : Word :=
  match c with
  | .left => l
  | .right => r

section stereoRun
variable (P : Config.Params) (l r : Word) (s : State)

@[simp] theorem stereoRun_outL : (stereoRun P l r s).outL = (chainRun P .left l s).out := rfl

/-- The left channel's run leaves every right lane as the right channel's run reads it. -/
theorem chainRun_left_keeps_right (i : StageIdx) : ((chainRun P .left l s).st[i]).lane .right = s.st[i].lane .right :=
  chainFold_other_lane P s.acCoef .left (by decide) _ _ _ i

@[simp] theorem stereoRun_outR : (stereoRun P l r s).outR = (chainRun P .right r s).out :=
  (chainFold_congr_lanes P s.acCoef .right _ r (chainRun_left_keeps_right P l s)).1

@[simp] theorem stereoRun_dsat :
    (stereoRun P l r s).state.dsat = (s.dsat || ((chainRun P .left l s).sat || (chainRun P .right r s).sat)) :=
  congrArg (fun b => s.dsat || ((chainRun P .left l s).sat || b))
    (chainFold_congr_lanes P s.acCoef .right _ r (chainRun_left_keeps_right P l s)).2.1

/-- A sample leaves in each channel's lanes what that channel's run alone leaves there. -/
theorem stereoRun_lane (c : Channel) (i : StageIdx) :
    ((stereoRun P l r s).state.st[i]).lane c = ((chainRun P c (c.pick l r) s).st[i]).lane c := by
  cases c with
  | left => exact chainFold_other_lane P s.acCoef .right (by decide) _ _ _ i
  | right => exact (chainFold_congr_lanes P s.acCoef .right _ r (chainRun_left_keeps_right P l s)).2.2 i

/-- A sample outputs on each channel what that channel's run alone returns. -/
theorem stereoRun_out (c : Channel) :
    c.pick (stereoRun P l r s).outL (stereoRun P l r s).outR = (chainRun P c (c.pick l r) s).out := by
  cases c with
  | left => exact stereoRun_outL P l r s
  | right => exact stereoRun_outR P l r s

end stereoRun

/-- What a sample outputs on a channel and leaves in its lanes depends only on that channel's input and lanes and the
active bank (R179). -/
theorem stereoRun_congr_lanes (P : Config.Params) (c : Channel) (l r l' r' : Word) {s u : State}
    (input : c.pick l r = c.pick l' r') (coef : s.acCoef = u.acCoef) (nst : s.acNst = u.acNst)
    (same : ∀ i : StageIdx, s.st[i].lane c = u.st[i].lane c) :
    c.pick (stereoRun P l r s).outL (stereoRun P l r s).outR =
      c.pick (stereoRun P l' r' u).outL (stereoRun P l' r' u).outR ∧
    ∀ i : StageIdx, ((stereoRun P l r s).state.st[i]).lane c = ((stereoRun P l' r' u).state.st[i]).lane c := by
  simp only [stereoRun_out, stereoRun_lane, chainRun, input, coef, nst]
  obtain ⟨out, -, lanes⟩ := chainFold_congr_lanes P u.acCoef c (stagesBelow u.acNst) (c.pick l' r') same
  exact ⟨out, lanes⟩

/-! ### The sample-port operations (R180 to R182) -/

theorem exec_sample (l r : Word) (s : State) :
    exec (.sample l r) s =
      let q := stereoRun hwParams l r s
      .next (q.state.withOutputs q.outL q.outR) := rfl

theorem exec_sample16 (l r : Word) (s : State) :
    exec (.sample16 l r) s =
      let q := stereoRun hwParams (fromI16 (sampleOperand l)) (fromI16 (sampleOperand r)) s
      .next ((q.state.orDsat ((toI16 q.outL).sat || (toI16 q.outR).sat)).withOutputs
        (sextSample (toI16 q.outL).word) (sextSample (toI16 q.outR).word)) := rfl

theorem exec_idle (s : State) : exec .idle s = .next (s.withOutputs 0 0) := rfl

theorem exists_channel {p : Channel → Prop} : (∃ c, p c) ↔ p .left ∨ p .right :=
  ⟨fun ⟨c, h⟩ => by cases c <;> simp [h], fun h => h.elim (⟨_, ·⟩) (⟨_, ·⟩)⟩

/-- Settles O33: a channel's value before stage `k` is the output of its run through the stages before `k`. -/
theorem sampleRunsTheChain : Obligations.SampleRunsTheChain := by
  unfold Obligations.SampleRunsTheChain
  refine ⟨fun l r => rfl, fun s l r le => ?_⟩
  refine ⟨_, fun c k => (chainUpTo hwParams c (c.pick l r) s k).out, ?_, ?_, ?_, ?_, ?_, ?_, exec_sample l r s⟩
  · simp only [chainUpTo_zero, Channel.pick]
  · simp only [chainUpTo_zero, Channel.pick]
  · intro c i active
    refine ⟨congrArg ChainOut.out (chainUpTo_succ hwParams c (c.pick l r) s i), ?_⟩
    rw [withOutputs_st, stereoRun_lane, chainRun_eq_chainUpTo]
    exact chainUpTo_lane hwParams c (c.pick l r) s le active
  · intro i inactive
    exact stereoRun_st_of_inactive hwParams l r s (Nat.not_lt.mpr inactive)
  · rw [withOutputs_dsat, stereoRun_dsat, Bool.or_eq_true, Bool.or_eq_true, chainRun_eq_chainUpTo,
      chainRun_eq_chainUpTo, chainUpTo_sat_iff _ _ _ _ le, chainUpTo_sat_iff _ _ _ _ le, exists_channel]
    rfl
  · rw [stereoRun_outL, stereoRun_outR, chainRun_eq_chainUpTo, chainRun_eq_chainUpTo]
    rfl

/-- A stereo sample with other a0 words in the active bank differs in those words alone (R172). -/
theorem stereoRun_with_a0 (P : Config.Params) (l r : Word) {s : State} {v : Vector Coeffs 20}
    (onlyA0 : ∀ i : StageIdx, ∃ a, v[i] = { s.acCoef[i] with a0 := a }) :
    stereoRun P l r { s with acCoef := v } =
      { stereoRun P l r s with state := { (stereoRun P l r s).state with acCoef := v } } := by
  have same (i : StageIdx) (S : BqState) (x : Word) : bqStep P v[i] S x = bqStep P s.acCoef[i] S x := by
    obtain ⟨a, ha⟩ := onlyA0 i
    rw [ha, bqStep_a0]
  have run (c : Channel) (x : Word) (st : Vector StageState Config.maxStages) :
      chainRun P c x { s with acCoef := v, st := st } = chainRun P c x { s with st := st } :=
    chainFold_congr_coef P same c _ x st
  simp only [stereoRun, State.setSt, State.orDsat, State.setDsat, run]

/-- Settles O31: a0 is not read by the stage step, so by no run, and a sample copies AC_COEF. -/
theorem a0NeverReachesTheOutput : Obligations.A0NeverReachesTheOutput := by
  unfold Obligations.A0NeverReachesTheOutput
  refine ⟨bqStep_a0, fun s v l r onlyA0 => ⟨⟨_, exec_sample l r s, ?_⟩, ⟨_, exec_sample16 l r s, ?_⟩⟩⟩
  · rw [exec_sample, stereoRun_with_a0 hwParams l r onlyA0]
    rfl
  · rw [exec_sample16, stereoRun_with_a0 hwParams _ _ onlyA0]
    rfl

/-- Settles O34: `FromI16` before the chain run, `ToI16` with sign extension after it. -/
theorem sample16ConvertsAroundTheChain : Obligations.Sample16ConvertsAroundTheChain := by
  unfold Obligations.Sample16ConvertsAroundTheChain
  refine ⟨fun l r => rfl, fun s l r => ?_⟩
  refine ⟨fromI16 (sampleOperand l), fromI16 (sampleOperand r), _, _, _, _, _, fromI16_toInt _, fromI16_toInt _,
    exec_sample _ _ s, rfl, nearestAway_rhaDiv _ (by decide), nearestAway_rhaDiv _ (by decide), ?_⟩
  simp only [exec_sample16, ← toI16_sat, ← sextSample_toI16, Bool.or_assoc]
  rfl

/-- Settles O37: a sample is one run per channel, and each run reads only its own lanes. -/
theorem lanesDoNotInteract : Obligations.LanesDoNotInteract := by
  unfold Obligations.LanesDoNotInteract
  intro s u x y y' coef nst
  constructor
  · intro same
    obtain ⟨out, lanes⟩ := stereoRun_congr_lanes hwParams .left x y x y' rfl coef nst same
    exact ⟨_, _, _, _, _, exec_sample x y s, exec_sample x y' u, rfl, congrArg (Reply.outputs · _) out.symm, lanes⟩
  · intro same
    obtain ⟨out, lanes⟩ := stereoRun_congr_lanes hwParams .right y x y' x rfl coef nst same
    exact ⟨_, _, _, _, _, exec_sample y x s, exec_sample y' x u, rfl, congrArg (Reply.outputs _ ·) out.symm, lanes⟩

/-- Settles O35: code 00 decodes to IDLE, whose meaning is the reply alone. -/
theorem idleDoesNothing : Obligations.IdleDoesNothing := by
  unfold Obligations.IdleDoesNothing
  exact ⟨fun l r => rfl, exec_idle⟩

end Sys2Proof.Machine

/-! The commands that write the shadow bank, read the chain's memories and request a swap, and the block boundary
(43_chain.md R200 to R216). -/

namespace Sys2Proof.Machine

/-! ### One check of a command (60_exceptions.md R270, R272) -/

/-- A command whose first check fails is refused with that check's code. -/
theorem runCommand_bind_error {α : Type} {check : Except CmdError α} {e : CmdError} (failed : check = .error e)
    (s : State) (rest : α → Except CmdError (State × Word)) :
    runCommand s (check >>= rest) = .next (refusedWith e.code s) := by
  rw [failed, error_bind_eq, runCommand_error]

/-- A command whose first check passes is what the rest of it says. -/
theorem runCommand_bind_ok {α : Type} {check : Except CmdError α} {a : α} (passed : check = .ok a)
    (s : State) (rest : α → Except CmdError (State × Word)) :
    runCommand s (check >>= rest) = runCommand s (rest a) := by
  rw [passed, ok_bind_eq]

theorem stageOperand_of_lt {stg : BitVec 8} (h : stg.toNat < 20) : stageOperand stg = .ok ⟨stg.toNat, h⟩ :=
  stageOperand_ok rfl

theorem coefOperand_of_lt {sel : BitVec 8} (h : sel.toNat < 6) : coefOperand sel = .ok ⟨sel.toNat, h⟩ :=
  coefOperand_ok rfl

/-! ### The indexed words as lists (10_state.md R25, R31) -/

theorem words_put (c : Coeffs) (k : Fin 6) (v : Word) : (c.put k v).words = c.words.set k.val v := by
  fin_cases k <;> rfl

theorem words_getElem? (c : Coeffs) (k : Fin 6) : c.words[k.val]? = some (c.get k) := by
  fin_cases k <;> rfl

theorem laneWords_getElem? (b : BqState) (k : Fin 4) : b.words[k.val]? = some (b.get k) := by
  fin_cases k <;> rfl

/-- A state selector below 8 names the word of that index in left's words followed by right's (R57, R209). -/
theorem stateOperand_of_lt {sel : BitVec 8} (h : sel.toNat < 8) (t : StageState) :
    ∃ (c : Channel) (k : Fin 4), stateOperand sel = .ok (c, k) ∧
      (t.left.words ++ t.right.words)[sel.toNat]? = some ((t.lane c).get k) := by
  by_cases left : sel.toNat < 4
  · exact ⟨.left, ⟨sel.toNat, left⟩, stateOperand_left rfl,
      (List.getElem?_append_left left).trans (laneWords_getElem? t.left ⟨sel.toNat, left⟩)⟩
  · have right : 4 ≤ sel.toNat := Nat.not_lt.mp left
    have index : sel.toNat - 4 < 4 := by omega
    exact ⟨.right, ⟨sel.toNat - 4, index⟩, stateOperand_right (Nat.add_sub_of_le right).symm,
      (List.getElem?_append_right right).trans (laneWords_getElem? t.right ⟨sel.toNat - 4, index⟩)⟩

/-! ### The shadow writes (R200 to R203): the checks in order, and what a write leaves -/

theorem exec_wkind (stg : BitVec 8) (d : Word) (s : State) :
    exec (.wkind stg d) s = runCommand s do
      let i ← stageOperand stg
      checkFree s
      let k ← kindOperand d
      return (s.setShKind (s.shKind.set i k), 0) := rfl

theorem exec_wcoef (stg sel : BitVec 8) (d : Word) (s : State) :
    exec (.wcoef stg sel d) s = runCommand s do
      let i ← stageOperand stg
      let k ← coefOperand sel
      checkFree s
      return (s.setShCoef (s.shCoef.set i (s.shCoef[i].put k d)), 0) := rfl

theorem exec_wnst (d : Word) (s : State) :
    exec (.wnst d) s = runCommand s do
      checkFree s
      let n ← countOperand d
      return (s.setShNst n, 0) := rfl

theorem exec_wkind_of_pending {s : State} (pending : s.commitPending = true) {stg : BitVec 8} (h : stg.toNat < 20)
    (d : Word) : exec (.wkind stg d) s = .next (refusedWith 0x07 s) := by
  rw [exec_wkind, runCommand_bind_ok (stageOperand_of_lt h), runCommand_bind_error (checkFree_error pending)]
  rfl

theorem exec_wcoef_of_pending {s : State} (pending : s.commitPending = true) {stg sel : BitVec 8}
    (h : stg.toNat < 20) (hk : sel.toNat < 6) (d : Word) :
    exec (.wcoef stg sel d) s = .next (refusedWith 0x07 s) := by
  rw [exec_wcoef, runCommand_bind_ok (stageOperand_of_lt h), runCommand_bind_ok (coefOperand_of_lt hk),
    runCommand_bind_error (checkFree_error pending)]
  rfl

theorem exec_wnst_of_pending {s : State} (pending : s.commitPending = true) (d : Word) :
    exec (.wnst d) s = .next (refusedWith 0x07 s) := by
  rw [exec_wnst, runCommand_bind_error (checkFree_error pending)]
  rfl

/-- WCOEF in range with no commit pending puts DATA at its index of the stage's shadow words. -/
theorem exec_wcoef_ok {s : State} (free : s.commitPending = false) {stg sel : BitVec 8} {i : StageIdx} {k : Fin 6}
    (hi : stg.toNat = i.val) (hk : sel.toNat = k.val) (d : Word) :
    exec (.wcoef stg sel d) s = .next ((s.setShCoef (s.shCoef.set i (s.shCoef[i].put k d))).withResult 0) := by
  rw [exec_wcoef, runCommand_bind_ok (stageOperand_ok hi), runCommand_bind_ok (coefOperand_ok hk),
    runCommand_bind_ok (checkFree_ok free), pure_eq_ok, runCommand_ok]

/-- Settles O39: the stage, then BUSY, then DATA is checked; a kind code is the low four bits of DATA. -/
theorem wkindWritesShadowKind : Obligations.WkindWritesShadowKind := by
  unfold Obligations.WkindWritesShadowKind
  refine ⟨commandEncoding_of_row (r := ⟨0x10, true, false, fun s _ d => .wkind s d⟩) rfl, fun s stg d =>
    ⟨?written, ?badStage, fun h pending => exec_wkind_of_pending pending h d, ?badKind⟩⟩
  case written =>
    intro i hi free hd
    rw [exec_wkind, runCommand_bind_ok (stageOperand_ok hi), runCommand_bind_ok (checkFree_ok free),
      runCommand_bind_ok (kindOperand_ok hd), pure_eq_ok, runCommand_ok]
    rfl
  case badStage =>
    intro h
    rw [exec_wkind, runCommand_bind_error (stageOperand_error h)]
    rfl
  case badKind =>
    intro h free hd
    rw [exec_wkind, runCommand_bind_ok (stageOperand_of_lt h), runCommand_bind_ok (checkFree_ok free),
      runCommand_bind_error (kindOperand_error hd)]
    rfl

/-- Settles O40: the stage, then the selector, then BUSY is checked; the written word is that of `words_put`. -/
theorem wcoefWritesShadowWord : Obligations.WcoefWritesShadowWord := by
  unfold Obligations.WcoefWritesShadowWord
  refine ⟨commandEncoding_of_row (r := ⟨0x11, true, true, fun s k d => .wcoef s k d⟩) rfl, fun s stg sel d =>
    ⟨?written, ?badStage, ?badSelect, fun h hk pending => exec_wcoef_of_pending pending h hk d⟩⟩
  case written =>
    intro i hi hk free
    exact ⟨s.shCoef[i].put ⟨sel.toNat, hk⟩ d, words_put _ _ d, exec_wcoef_ok free hi rfl d⟩
  case badStage =>
    intro h
    rw [exec_wcoef, runCommand_bind_error (stageOperand_error h)]
    rfl
  case badSelect =>
    intro h hk
    rw [exec_wcoef, runCommand_bind_ok (stageOperand_of_lt h), runCommand_bind_error (coefOperand_error hk)]
    rfl

/-- Settles O41: BUSY, then DATA is checked; a chain length is the low byte of DATA. -/
theorem wnstWritesShadowLength : Obligations.WnstWritesShadowLength := by
  unfold Obligations.WnstWritesShadowLength
  refine ⟨commandEncoding_of_row (r := ⟨0x12, false, false, fun _ _ d => .wnst d⟩) rfl, fun s d =>
    ⟨?written, fun pending => exec_wnst_of_pending pending d, ?badNstages⟩⟩
  case written =>
    intro free hd
    rw [exec_wnst, runCommand_bind_ok (checkFree_ok free), runCommand_bind_ok (countOperand_ok hd), pure_eq_ok,
      runCommand_ok]
    rfl
  case badNstages =>
    intro free hd
    rw [exec_wnst, runCommand_bind_ok (checkFree_ok free), runCommand_bind_error (countOperand_error hd)]
    rfl

/-- Settles O15: BUSY is checked after the fields and before DATA, and a refusal keeps the shadow bank. -/
theorem shadowWritesAreBusy : Obligations.ShadowWritesAreBusy := by
  unfold Obligations.ShadowWritesAreBusy
  exact fun s stg sel d pending h hk => ⟨exec_wkind_of_pending pending h d, exec_wcoef_of_pending pending h hk d,
    exec_wnst_of_pending pending d⟩

/-! ### The reads (R204 to R209) -/

theorem exec_rscoef (stg sel : BitVec 8) (s : State) :
    exec (.rscoef stg sel) s = runCommand s do
      let i ← stageOperand stg
      let k ← coefOperand sel
      return (s, s.shCoef[i].get k) := rfl

theorem exec_racoef (stg sel : BitVec 8) (s : State) :
    exec (.racoef stg sel) s = runCommand s do
      let i ← stageOperand stg
      let k ← coefOperand sel
      return (s, s.acCoef[i].get k) := rfl

theorem exec_rskind (stg : BitVec 8) (s : State) :
    exec (.rskind stg) s = runCommand s do
      let i ← stageOperand stg
      return (s, s.shKind[i].zeroExtend 32) := rfl

theorem exec_rakind (stg : BitVec 8) (s : State) :
    exec (.rakind stg) s = runCommand s do
      let i ← stageOperand stg
      return (s, s.acKind[i].zeroExtend 32) := rfl

theorem exec_rnst (sel : BitVec 8) (s : State) :
    exec (.rnst sel) s = runCommand s do
      let active ← bankOperand sel
      return (s, (if active then s.acNst else s.shNst).zeroExtend 32) := rfl

theorem exec_rstate (stg sel : BitVec 8) (s : State) :
    exec (.rstate stg sel) s = runCommand s do
      let i ← stageOperand stg
      let ck ← stateOperand sel
      return (s, (s.st[i].lane ck.1).get ck.2) := rfl

theorem exec_rscoef_ok (s : State) {stg sel : BitVec 8} {i : StageIdx} {k : Fin 6} (hi : stg.toNat = i.val)
    (hk : sel.toNat = k.val) : exec (.rscoef stg sel) s = .next (s.withResult (s.shCoef[i].get k)) := by
  rw [exec_rscoef, runCommand_bind_ok (stageOperand_ok hi), runCommand_bind_ok (coefOperand_ok hk), pure_eq_ok,
    runCommand_ok]

theorem exec_racoef_ok (s : State) {stg sel : BitVec 8} {i : StageIdx} {k : Fin 6} (hi : stg.toNat = i.val)
    (hk : sel.toNat = k.val) : exec (.racoef stg sel) s = .next (s.withResult (s.acCoef[i].get k)) := by
  rw [exec_racoef, runCommand_bind_ok (stageOperand_ok hi), runCommand_bind_ok (coefOperand_ok hk), pure_eq_ok,
    runCommand_ok]

/-- Settles O42: the two reads check alike and differ in the bank; the word of an index is that of `words_getElem?`. -/
theorem coefficientReads : Obligations.CoefficientReads := by
  unfold Obligations.CoefficientReads
  refine ⟨commandEncoding_of_row (r := ⟨0x13, true, true, fun s k _ => .rscoef s k⟩) rfl,
    commandEncoding_of_row (r := ⟨0x16, true, true, fun s k _ => .racoef s k⟩) rfl, fun s stg sel =>
    ⟨?read, ?badStage, ?badSelect⟩⟩
  case read =>
    intro i hi hk
    let k : Fin 6 := ⟨sel.toNat, hk⟩
    exact ⟨_, _, words_getElem? _ k, words_getElem? _ k, exec_rscoef_ok s hi rfl, exec_racoef_ok s hi rfl⟩
  case badStage =>
    intro h
    rw [exec_rscoef, exec_racoef, runCommand_bind_error (stageOperand_error h),
      runCommand_bind_error (stageOperand_error h)]
    exact ⟨rfl, rfl⟩
  case badSelect =>
    intro h hk
    rw [exec_rscoef, exec_racoef, runCommand_bind_ok (stageOperand_of_lt h),
      runCommand_bind_ok (stageOperand_of_lt h), runCommand_bind_error (coefOperand_error hk),
      runCommand_bind_error (coefOperand_error hk)]
    exact ⟨rfl, rfl⟩

/-- Settles O43: the two reads check alike; zero extension keeps a kind's number. -/
theorem kindReads : Obligations.KindReads := by
  unfold Obligations.KindReads
  refine ⟨commandEncoding_of_row (r := ⟨0x14, true, false, fun s _ _ => .rskind s⟩) rfl,
    commandEncoding_of_row (r := ⟨0x17, true, false, fun s _ _ => .rakind s⟩) rfl, fun s stg => ⟨?read, ?badStage⟩⟩
  case read =>
    intro i hi
    rw [exec_rskind, exec_rakind, runCommand_bind_ok (stageOperand_ok hi), runCommand_bind_ok (stageOperand_ok hi),
      BitVec.ofNat_toNat, BitVec.ofNat_toNat]
    exact ⟨rfl, rfl⟩
  case badStage =>
    intro h
    rw [exec_rskind, exec_rakind, runCommand_bind_error (stageOperand_error h),
      runCommand_bind_error (stageOperand_error h)]
    exact ⟨rfl, rfl⟩

/-- Settles O44: selector 0 names the shadow length, 1 the active length, and no other names one. -/
theorem chainLengthReads : Obligations.ChainLengthReads := by
  unfold Obligations.ChainLengthReads
  refine ⟨commandEncoding_of_row (r := ⟨0x15, false, true, fun _ k _ => .rnst k⟩) rfl, fun s sel =>
    ⟨?shadow, ?active, ?badSelect⟩⟩
  case shadow =>
    intro h
    rw [exec_rnst, runCommand_bind_ok (bankOperand_shadow h), BitVec.ofNat_toNat]
    rfl
  case active =>
    intro h
    rw [exec_rnst, runCommand_bind_ok (bankOperand_active h), BitVec.ofNat_toNat]
    rfl
  case badSelect =>
    intro h
    rw [exec_rnst, runCommand_bind_error (bankOperand_error h)]
    rfl

/-- Settles O45: the word a selector names is that of `stateOperand_of_lt`. -/
theorem stateReads : Obligations.StateReads := by
  unfold Obligations.StateReads
  refine ⟨commandEncoding_of_row (r := ⟨0x18, true, true, fun s k _ => .rstate s k⟩) rfl, fun s stg sel =>
    ⟨?read, ?badStage, ?badSelect⟩⟩
  case read =>
    intro i hi hk
    obtain ⟨c, k, operand, word⟩ := stateOperand_of_lt hk s.st[i]
    refine ⟨_, word, ?_⟩
    rw [exec_rstate, runCommand_bind_ok (stageOperand_ok hi), runCommand_bind_ok operand]
    rfl
  case badStage =>
    intro h
    rw [exec_rstate, runCommand_bind_error (stageOperand_error h)]
    rfl
  case badSelect =>
    intro h hk
    rw [exec_rstate, runCommand_bind_ok (stageOperand_of_lt h), runCommand_bind_error (stateOperand_error hk)]
    rfl

/-! ### The requests (R210 to R212) -/

theorem exec_commit (s : State) :
    exec .commit s = runCommand s do
      checkComplete s
      return (s.setCommitPending true, 0) := rfl

theorem exec_rstst (stg : BitVec 8) (s : State) :
    exec (.rstst stg) s = runCommand s do
      let i ← stageOperand stg
      return (s.setRstPend (s.rstPend.set i true), 0) := rfl

theorem exec_rstall (s : State) :
    exec .rstall s = .next ((s.setRstPend (Vector.replicate Config.maxStages true)).withResult 0) := rfl

/-- Settles O47: COMMIT's one check is that every stage below SH_NST has a kind. -/
theorem commitRequestsSwap : Obligations.CommitRequestsSwap := by
  unfold Obligations.CommitRequestsSwap
  refine ⟨commandEncoding_of_row (r := ⟨0x20, false, false, fun _ _ _ => .commit⟩) rfl, fun s _ =>
    ⟨fun complete => ?accepted, fun i below missing => ?incomplete⟩⟩
  case accepted =>
    rw [exec_commit, runCommand_bind_ok (checkComplete_ok complete)]
    rfl
  case incomplete =>
    rw [exec_commit, runCommand_bind_error (checkComplete_error below missing)]
    rfl

/-- Settles O48: neither command reads COMMIT_PENDING. -/
theorem resetRequests : Obligations.ResetRequests := by
  unfold Obligations.ResetRequests
  refine ⟨commandEncoding_of_row (r := ⟨0x21, true, false, fun s _ _ => .rstst s⟩) rfl,
    commandEncoding_of_row (r := ⟨0x22, false, false, fun _ _ _ => .rstall⟩) rfl, fun s =>
    ⟨?one, ?badStage, Vector.replicate 20 true, fun i => Vector.getElem_replicate i.isLt, exec_rstall s⟩⟩
  case one =>
    intro stg i hi
    rw [exec_rstst, runCommand_bind_ok (stageOperand_ok hi)]
    rfl
  case badStage =>
    intro stg h
    rw [exec_rstst, runCommand_bind_error (stageOperand_error h)]
    rfl

/-! ### The block boundary (R213 to R216, R220) -/

theorem exec_boundary (s : State) : exec .boundary s = .next ((applyBoundary hwParams s).withOutputs 0 0) := rfl

/-- With no state reset requested, the resets change nothing (R216). -/
theorem applyResets_of_none {s : State} (unrequested : ∀ i : StageIdx, s.rstPend[i] = false) : applyResets s = s := by
  have st : (applyResets s).st = s.st := vector_ext fun i => by
    rw [applyResets_st, unrequested, if_neg Bool.false_ne_true]
  have rp : Vector.replicate Config.maxStages false = s.rstPend :=
    vector_ext fun i => (Vector.getElem_replicate i.isLt).trans (unrequested i).symm
  rw [applyResets_frame, st, rp]

/-- Settles O50: with no commit pending a BOUNDARY is `applyResets`, which is the identity where nothing is requested. -/
theorem boundaryAppliesResets : Obligations.BoundaryAppliesResets := by
  unfold Obligations.BoundaryAppliesResets
  refine ⟨fun l r => rfl, fun s free =>
    ⟨(applyResets s).st, Vector.replicate 20 false, fun i => ⟨?zeroed, ?kept, Vector.getElem_replicate i.isLt⟩,
      ?outcome, ?nothing⟩⟩
  case zeroed =>
    intro requested
    rw [applyResets_st, if_pos requested]
    rfl
  case kept =>
    intro unrequested
    rw [applyResets_st, unrequested, if_neg Bool.false_ne_true]
  case outcome =>
    rw [exec_boundary, applyBoundary_of_no_commit hwParams free, applyResets_frame]
    rfl
  case nothing =>
    intro unrequested
    rw [exec_boundary, applyBoundary_of_no_commit hwParams free, applyResets_of_none unrequested]
    rfl

/-- The replay of stage `i` that a commit makes saturates, on one of the two channels (R214, R215). -/
def ReplaySaturates (P : Config.Params) (s : State) (i : StageIdx) : Prop :=
  ReplayDue s i ∧ ∃ c : Channel, (replaySteps P s.shCoef[i] (s.st[i].lane c)).1.sat = true ∨
    (replaySteps P s.shCoef[i] (s.st[i].lane c)).2.sat = true

section commit
variable (P : Config.Params)

theorem reconfigure_dsat_iff (s : State) (i : StageIdx) :
    (reconfigure P s i).dsat = true ↔ s.dsat = true ∨ ReplaySaturates P s i := by
  rw [reconfigure_dsat, ReplaySaturates, exists_channel, ← needsReplay_iff]
  simp only [Bool.or_eq_true, Bool.and_eq_true, StageState.lane, or_assoc]

/-- A reconfiguration of another stage does not change whether a stage's replay saturates (R213). -/
theorem replaySaturates_reconfigure_of_ne (s : State) {i j : StageIdx} (h : i ≠ j) :
    ReplaySaturates P (reconfigure P s j) i ↔ ReplaySaturates P s i := by
  have shCoef : (reconfigure P s j).shCoef = s.shCoef := by rw [reconfigure_frame]
  simp only [ReplaySaturates, ← needsReplay_iff, needsReplay_reconfigure_of_ne P s h, reconfigure_st_of_ne P s h,
    shCoef]

/-- Reconfiguring a list of stages sets DSAT exactly when the replay of one of them saturates (R214). -/
theorem foldl_reconfigure_dsat_iff (l : List StageIdx) (nd : l.Nodup) (s : State) :
    (l.foldl (reconfigure P) s).dsat = true ↔ s.dsat = true ∨ ∃ i ∈ l, ReplaySaturates P s i := by
  induction l generalizing s with
  | nil => simp
  | cons j rest ih =>
    obtain ⟨hj, nd'⟩ := List.nodup_cons.mp nd
    have later (i : StageIdx) (hi : i ∈ rest) : ReplaySaturates P (reconfigure P s j) i ↔ ReplaySaturates P s i :=
      replaySaturates_reconfigure_of_ne P s fun e => hj (e ▸ hi)
    rw [List.foldl_cons, ih nd', reconfigure_dsat_iff, List.exists_mem_cons_iff, or_assoc,
      exists_congr fun i => and_congr_right (later i)]

variable {P} {s : State} (pending : s.commitPending = true)
include pending

/-- A commit gives a stage below SH_NST its shadow words and kind, and the state of its own reconfiguration, unless a
state reset zeroes it (R213, R214, R216). -/
theorem applyBoundary_below {i : StageIdx} (below : i.val < s.shNst.toNat) :
    (applyBoundary P s).acCoef[i] = s.shCoef[i] ∧ (applyBoundary P s).acKind[i] = s.shKind[i] ∧
      (applyBoundary P s).st[i] = if s.rstPend[i] then zeroStage else (reconfigure P s i).st[i] := by
  obtain ⟨acCoef, acKind, -, -, st⟩ := applyBoundary_of_commit P pending
  obtain ⟨coef, kind, state⟩ :=
    foldl_reconfigure_of_mem P (stagesBelow s.shNst) (stagesBelow_nodup _) (mem_stagesBelow.mpr below) s
  rw [acCoef, acKind, st, coef, kind, state]
  exact ⟨rfl, rfl, rfl⟩

/-- A commit leaves the stages from SH_NST on, unless a state reset zeroes them (R213, R216). -/
theorem applyBoundary_above {i : StageIdx} (above : s.shNst.toNat ≤ i.val) :
    (applyBoundary P s).acCoef[i] = s.acCoef[i] ∧ (applyBoundary P s).acKind[i] = s.acKind[i] ∧
      (applyBoundary P s).st[i] = if s.rstPend[i] then zeroStage else s.st[i] := by
  obtain ⟨acCoef, acKind, -, -, st⟩ := applyBoundary_of_commit P pending
  have notIn : i ∉ stagesBelow s.shNst := fun h => absurd (mem_stagesBelow.mp h) (Nat.not_lt.mpr above)
  obtain ⟨coef, kind, state⟩ := foldl_reconfigure_of_not_mem P (stagesBelow s.shNst) notIn s
  rw [acCoef, acKind, st, coef, kind, state]
  exact ⟨rfl, rfl, rfl⟩

/-- A requested state reset zeroes its stage, after the commit (R216, R220). -/
theorem applyBoundary_requested {i : StageIdx} (requested : s.rstPend[i] = true) :
    (applyBoundary P s).st[i] = zeroStage := by
  obtain ⟨-, -, -, -, st⟩ := applyBoundary_of_commit P pending
  rw [st, if_pos requested]

theorem applyBoundary_dsat_iff :
    (applyBoundary P s).dsat = true ↔
      s.dsat = true ∨ ∃ i : StageIdx, i.val < s.shNst.toNat ∧ ReplaySaturates P s i := by
  obtain ⟨-, -, -, dsat, -⟩ := applyBoundary_of_commit P pending
  rw [dsat, foldl_reconfigure_dsat_iff P _ (stagesBelow_nodup _)]
  simp only [mem_stagesBelow]

end commit

theorem applyBoundary_rstPend (P : Config.Params) (s : State) (i : StageIdx) :
    (applyBoundary P s).rstPend[i] = false := by
  rw [applyBoundary_frame]
  exact Vector.getElem_replicate i.isLt

/-- Settles O49: each stage is reconfigured once, from what it held before the boundary, and the resets come after. -/
theorem boundaryAppliesCommit : Obligations.BoundaryAppliesCommit := by
  unfold Obligations.BoundaryAppliesCommit
  intro s pending _
  refine ⟨_, exec_boundary s, fun i below => ?below, fun i above => ?above,
    fun i => ⟨fun requested => ?zeroed, ?cleared⟩, ?dsat, ?frame⟩
  case below =>
    obtain ⟨coef, kind, state⟩ := applyBoundary_below (P := hwParams) pending below
    rw [withOutputs_acCoef, withOutputs_acKind, withOutputs_st, coef, kind, state]
    refine ⟨rfl, rfl, fun unrequested due => ?_, fun unrequested kept => ?_⟩
    · rw [unrequested, if_neg Bool.false_ne_true, reconfigure_st_at,
        if_pos ((needsReplay_iff s i).mpr due)]
    · rw [unrequested, if_neg Bool.false_ne_true, reconfigure_st_at,
        if_neg (mt (needsReplay_iff s i).mp kept)]
  case above =>
    obtain ⟨coef, kind, state⟩ := applyBoundary_above (P := hwParams) pending above
    rw [withOutputs_acCoef, withOutputs_acKind, withOutputs_st, coef, kind, state]
    refine ⟨rfl, rfl, fun unrequested => ?_⟩
    rw [unrequested, if_neg Bool.false_ne_true]
  case zeroed =>
    rw [withOutputs_st, applyBoundary_requested pending requested]
    rfl
  case cleared =>
    rw [withOutputs_rstPend, applyBoundary_rstPend]
  case dsat =>
    rw [withOutputs_dsat, applyBoundary_dsat_iff pending]
    simp only [ReplaySaturates, exists_and_left]
  case frame =>
    obtain ⟨-, -, acNst, -, -⟩ := applyBoundary_of_commit hwParams pending
    have frame := applyBoundary_frame hwParams s
    rw [acNst] at frame
    generalize applyBoundary hwParams s = t at frame ⊢
    rw [frame]
    rfl

end Sys2Proof.Machine

/-! The control and status commands (44_control.md R250 to R253). -/

namespace Sys2Proof.Machine

/-! ### The status word (R251) -/

/-- A field that starts above the lowest bit does not see that bit. -/
theorem extractLsb'_succ_append_ofBool {w : Nat} (x : BitVec w) (b : Bool) (start len : Nat) :
    (x ++ BitVec.ofBool b).extractLsb' (start + 1) len = x.extractLsb' start len :=
  BitVec.extractLsb'_append_eq_of_le (Nat.le_add_left 1 start)

section statusWord
variable (s : State)

theorem statusWord_commitPending : (statusWord s).getLsbD 0 = s.commitPending := by
  simp only [statusWord, BitVec.append_ofBool, BitVec.getLsbD_concat_zero]

theorem statusWord_resetPending : (statusWord s).getLsbD 1 = resetPending s := by
  simp only [statusWord, BitVec.append_ofBool, BitVec.getLsbD_concat_succ, BitVec.getLsbD_concat_zero]

theorem statusWord_err : (statusWord s).getLsbD 2 = s.err := by
  simp only [statusWord, BitVec.append_ofBool, BitVec.getLsbD_concat_succ, BitVec.getLsbD_concat_zero]

theorem statusWord_sat : (statusWord s).getLsbD 3 = s.sat := by
  simp only [statusWord, BitVec.append_ofBool, BitVec.getLsbD_concat_succ, BitVec.getLsbD_concat_zero]

theorem statusWord_dsat : (statusWord s).getLsbD 4 = s.dsat := by
  simp only [statusWord, BitVec.append_ofBool, BitVec.getLsbD_concat_succ, BitVec.getLsbD_concat_zero]

/-- Above its five flag bits the status word is `SH_NST : AC_NST : ERRCODE : 0b000`. -/
theorem statusWord_above_flags (start len : Nat) :
    (statusWord s).extractLsb' (start + 5) len =
      (s.shNst ++ s.acNst ++ s.errCode ++ 0#3).extractLsb' start len := by
  simp only [statusWord, extractLsb'_succ_append_ofBool]

theorem statusWord_zeros : (statusWord s).extractLsb' 5 3 = 0 := by
  rw [statusWord_above_flags s 0, BitVec.extractLsb'_append_eq_of_add_le (by decide), BitVec.extractLsb'_eq_self]
  rfl

theorem statusWord_errCode : (statusWord s).extractLsb' 8 8 = s.errCode := by
  rw [statusWord_above_flags s 3, BitVec.extractLsb'_append_eq_of_le (by decide),
    BitVec.extractLsb'_append_eq_of_add_le (by decide), BitVec.extractLsb'_eq_self]

theorem statusWord_acNst : (statusWord s).extractLsb' 16 8 = s.acNst := by
  rw [statusWord_above_flags s 11, BitVec.extractLsb'_append_eq_of_le (by decide),
    BitVec.extractLsb'_append_eq_of_le (by decide), BitVec.extractLsb'_append_eq_of_add_le (by decide),
    BitVec.extractLsb'_eq_self]

theorem statusWord_shNst : (statusWord s).extractLsb' 24 8 = s.shNst := by
  rw [statusWord_above_flags s 19, BitVec.extractLsb'_append_eq_of_le (by decide),
    BitVec.extractLsb'_append_eq_of_le (by decide), BitVec.extractLsb'_append_eq_of_le (by decide),
    BitVec.extractLsb'_eq_self]

end statusWord

/-- RESET_PENDING is the OR of the reset requests (R33). -/
theorem resetPending_iff (s : State) : resetPending s = true ↔ ∃ i : StageIdx, s.rstPend[i] = true :=
  decide_eq_true_iff

/-! ### The commands: what each answers, over the named updates of the state -/

theorem exec_nop (s : State) : exec .nop s = .next (s.withResult 0) := rfl

theorem exec_rstat (s : State) : exec .rstat s = .next (s.withResult (statusWord s)) := rfl

theorem exec_rid (s : State) : exec .rid s = .next (s.withResult identWord) := rfl

theorem exec_clrst (s : State) : exec .clrst s = .next ((clearSticky s).withResult 0) := rfl

/-- Settles O57: RSTAT answers `statusWord`, whose fields stand one by one above. -/
theorem statusWordFields : Obligations.StatusWordFields := by
  unfold Obligations.StatusWordFields
  refine ⟨commandEncoding_of_row (r := ⟨0x23, false, false, fun _ _ _ => .rstat⟩) rfl,
    fun s => ⟨statusWord s, exec_rstat s, statusWord_commitPending s, ?_, statusWord_err s, statusWord_sat s,
      statusWord_dsat s, statusWord_zeros s, statusWord_errCode s, statusWord_acNst s, statusWord_shNst s⟩⟩
  rw [statusWord_resetPending, resetPending_iff]

/-- Settles O56: neither command touches a register, and the identity word is that of `identWord_eq`. -/
theorem nopAndIdentity : Obligations.NopAndIdentity := by
  unfold Obligations.NopAndIdentity
  refine ⟨commandEncoding_of_row (r := ⟨0x00, false, false, fun _ _ _ => .nop⟩) rfl,
    commandEncoding_of_row (r := ⟨0x24, false, false, fun _ _ _ => .rid⟩) rfl, fun s => ⟨exec_nop s, ?_⟩⟩
  rw [exec_rid, identWord_eq]
  rfl

/-- Settles O58: CLRST's meaning is `clearSticky`, which writes the four sticky registers and no pending bit. -/
theorem clrstClearsSticky : Obligations.ClrstClearsSticky := by
  unfold Obligations.ClrstClearsSticky
  exact ⟨commandEncoding_of_row (r := ⟨0x25, false, false, fun _ _ _ => .clrst⟩) rfl, exec_clrst⟩

end Sys2Proof.Machine

/-! The error record ERR and ERRCODE, and what can change it (10_state.md R34, 60_exceptions.md R270, R273). -/

namespace Sys2Proof.Machine

/-- ERR and ERRCODE: what the machine remembers of its refusals (R34). -/
def State.errorRecord (s : State) : Bool × BitVec 8 := (s.err, s.errCode)

/-- A refusal while ERR is set leaves the record of the first one (R273). -/
theorem refusedWith_errorRecord {s : State} (latched : s.err = true) (c : BitVec 8) :
    (refusedWith c s).errorRecord = s.errorRecord := by
  simp [State.errorRecord, latched]

/-! ### Commands: only the refusal of a command writes the record (R270) -/

/-- A command body that, where it is not refused, leaves the error record of `s`. -/
def KeepsRecord (s : State) (body : Except CmdError (State × Word)) : Prop :=
  ∀ u w, body = .ok (u, w) → u.errorRecord = s.errorRecord

theorem keepsRecord_pure {s u : State} (kept : u.errorRecord = s.errorRecord) (w : Word) :
    KeepsRecord s (pure (u, w)) := by
  rintro _ _ ⟨⟩
  exact kept

/-- A check writes nothing, so the record is kept when what follows the check keeps it. -/
theorem keepsRecord_bind {α : Type} {s : State} {check : Except CmdError α}
    {rest : α → Except CmdError (State × Word)} (kept : ∀ a, KeepsRecord s (rest a)) :
    KeepsRecord s (check >>= rest) := by
  intro u w passed
  obtain ⟨a, -, done⟩ := bind_eq_ok passed
  exact kept a u w done

/-- What an outcome reached from `s` does to the error record: it keeps it, or it is a refusal from `s`. -/
def RecordKeptOrRefused (s : State) (o : Host.Outcome State Fault Refusal) : Prop :=
  ∃ t, o = .next t ∧ (t.errorRecord = s.errorRecord ∨ ∃ e : CmdError, t = refusedWith e.code s)

theorem runCommand_recordKeptOrRefused {s : State} {body : Except CmdError (State × Word)}
    (kept : KeepsRecord s body) : RecordKeptOrRefused s (runCommand s body) := by
  rcases body with e | ⟨u, w⟩
  · exact ⟨_, runCommand_error s e, .inr ⟨e, rfl⟩⟩
  · exact ⟨_, runCommand_ok s u w, .inl (kept u w rfl)⟩

/-! ### Every instruction but CLRST (R34, R253) -/

theorem withOutputs_errorRecord (s : State) (l r : Word) : (s.withOutputs l r).errorRecord = s.errorRecord := rfl

theorem applyBoundary_errorRecord (P : Config.Params) (s : State) :
    (applyBoundary P s).errorRecord = s.errorRecord := by
  rw [applyBoundary_frame]
  rfl

/-- An instruction other than CLRST keeps the error record or is refused. The cases stand by how many checks the
instruction makes before it writes. -/
theorem exec_recordKeptOrRefused {i : Instr} (notClear : i ≠ .clrst) (s : State) :
    RecordKeptOrRefused s (exec i s) := by
  cases i with
  | clrst => exact absurd rfl notClear
  | nop | lda | qmul | mac | msu | aclr | ard | ald | cvtiq | cvtqi | rstall | rstat | rid | idle | sample | sample16 =>
    exact ⟨_, rfl, .inl rfl⟩
  | boundary =>
    exact ⟨_, exec_boundary s, .inl ((withOutputs_errorRecord _ 0 0).trans (applyBoundary_errorRecord hwParams s))⟩
  | rskind | rakind | rnst | commit | rstst =>
    simp only [exec_rskind, exec_rakind, exec_rnst, exec_commit, exec_rstst]
    exact runCommand_recordKeptOrRefused (keepsRecord_bind fun _ => keepsRecord_pure rfl _)
  | wnst | rscoef | racoef | rstate =>
    simp only [exec_wnst, exec_rscoef, exec_racoef, exec_rstate]
    exact runCommand_recordKeptOrRefused (keepsRecord_bind fun _ => keepsRecord_bind fun _ => keepsRecord_pure rfl _)
  | wkind | wcoef =>
    simp only [exec_wkind, exec_wcoef]
    exact runCommand_recordKeptOrRefused
      (keepsRecord_bind fun _ => keepsRecord_bind fun _ => keepsRecord_bind fun _ => keepsRecord_pure rfl _)

/-- While ERR is set, an instruction other than CLRST keeps the error record, refused or not (R273). -/
theorem exec_errorRecord {i : Instr} (notClear : i ≠ .clrst) {s t : State} (latched : s.err = true)
    (h : exec i s = .next t) : t.errorRecord = s.errorRecord := by
  obtain ⟨u, answered, effect⟩ := exec_recordKeptOrRefused notClear s
  obtain rfl : u = t := by simpa [answered] using h
  obtain kept | ⟨e, rfl⟩ := effect
  · exact kept
  · exact refusedWith_errorRecord latched e.code

/-! ### Every event but CLRST and RESET -/

theorem step_errorRecord {s t : State} (latched : s.err = true)
    (keeps : ∀ e rest, s.pending = e :: rest → e.keepsError) (h : step s = .next t) :
    t.errorRecord = s.errorRecord := by
  obtain ⟨-, rfl⟩ | ⟨e, rest, pending, branch⟩ := step_cases h
  · rfl
  obtain ⟨notReset, notClear⟩ := keeps e rest pending
  obtain ⟨reset, -⟩ | ⟨x, i, rfl, decoded, executed⟩ | ⟨x, c, -, -, rfl⟩ := branch
  · exact absurd reset notReset
  · have other : i ≠ .clrst := by
      rintro rfl
      exact notClear (by rw [Event.instr?, decoded, Except.toOption])
    exact exec_errorRecord (s := s.setPending rest) other latched executed
  · exact refusedWith_errorRecord (s := s.setPending rest) latched c.code

/-- Settles O14: by `step_errorRecord`, ERR and ERRCODE are as they were, and ERR was set. -/
theorem firstErrorCodeIsKept : Obligations.FirstErrorCodeIsKept := by
  unfold Obligations.FirstErrorCodeIsKept
  intro s t latched keeps h
  obtain ⟨err, errCode⟩ := Prod.mk.inj (step_errorRecord latched keeps h)
  exact ⟨err.trans latched, errCode⟩

end Sys2Proof.Machine

/-! Encoding and decoding (30_encoding.md R70, R74, R80). -/

namespace Sys2Proof.Machine

/-! ### The encoder's words are decoded by their row (R70, R74) -/

/-- An encoded command decodes to what its opcode's row builds, where the fields the row does not use are zero. -/
theorem decode_encodeCommand {opc stg sel : BitVec 8} {data : Word} {r : OpRow} {i : Instr} (row : rowOf opc = some r)
    (stgClear : r.usesStg = true ∨ stg = 0) (selClear : r.usesSel = true ∨ sel = 0)
    (built : r.build stg sel data = i) : decode (encodeCommand opc stg sel data) = .ok i := by
  rw [encodeCommand, decode, decodeCommand_commandWord, row]
  simp only [Bool.and_eq_true, Bool.or_eq_true, beq_iff_eq, built]
  rw [if_pos ⟨stgClear, selClear⟩]

/-- Settles O1: a command by its row, grouped by the fields the row uses; a sample-port operation by its code. -/
theorem decodeOfEncode : Obligations.DecodeOfEncode := by
  unfold Obligations.DecodeOfEncode
  intro i
  cases i with
  | nop | lda | qmul | mac | msu | aclr | ard | ald | cvtiq | cvtqi | wnst | commit | rstall | rstat | rid | clrst =>
    exact decode_encodeCommand rfl (.inr rfl) (.inr rfl) rfl
  | wkind | rskind | rakind | rstst => exact decode_encodeCommand rfl (.inl rfl) (.inr rfl) rfl
  | rnst => exact decode_encodeCommand rfl (.inr rfl) (.inl rfl) rfl
  | wcoef | rscoef | racoef | rstate => exact decode_encodeCommand rfl (.inl rfl) (.inl rfl) rfl
  | idle | sample | boundary | sample16 => rfl

/-- Settles O5: the decoder compares the code with each of the four values. -/
theorem sampleCodesDecode : Obligations.SampleCodesDecode := by
  unfold Obligations.SampleCodesDecode
  exact fun l r => ⟨rfl, rfl, rfl, rfl⟩

/-- Settles O4: each word is evaluated by the decoder. -/
theorem specWordsDecode : Obligations.SpecWordsDecode := by
  unfold Obligations.SpecWordsDecode
  exact ⟨rfl, rfl, rfl, rfl, rfl, rfl, rfl, rfl, rfl, rfl⟩

end Sys2Proof.Machine

/-! What one instruction and one step can do to the state, said once, and the claims about every step that follow from it:
the invariant, completion, refusals, the writers of each register and the wait for the block boundary. -/

namespace Sys2Proof.Machine

/-! ### What an instruction can do (20_memory.md R55, 60_exceptions.md R270) -/

/-- What instruction `i` can leave from `s`: a refusal, a reply alone, or the update that is its own, with the facts its
checks passed. The words and flags a constructor takes are left open: the claims below read which registers are written. -/
inductive Effect (s : State) : Instr → State → Prop
  | refused (i : Instr) (e : CmdError) : Effect s i (refusedWith e.code s)
  | answered (i : Instr) (w : Word) : Effect s i (s.withResult w)
  | lda (d : Word) : Effect s (.lda d) ((s.setOpa d).withResult 0)
  | qmul (d : Word) (b : Bool) (w : Word) : Effect s (.qmul d) ((s.orSat b).withResult w)
  | mac (d : Word) (a : BitVec Config.accBits) (b : Bool) : Effect s (.mac d) (((s.setAcc a).orSat b).withResult 0)
  | msu (d : Word) (a : BitVec Config.accBits) (b : Bool) : Effect s (.msu d) (((s.setAcc a).orSat b).withResult 0)
  | aclr : Effect s .aclr ((s.setAcc 0).withResult 0)
  | ard (b : Bool) (w : Word) : Effect s .ard ((s.orSat b).withResult w)
  | ald (d : Word) (a : BitVec Config.accBits) : Effect s (.ald d) ((s.setAcc a).withResult 0)
  | cvtqi (d : Word) (b : Bool) (w : Word) : Effect s (.cvtqi d) ((s.orSat b).withResult w)
  | wkind (stg : BitVec 8) (d : Word) (i : StageIdx) (k : Kind) (free : s.commitPending = false) (legal : KindLegal k) :
      Effect s (.wkind stg d) ((s.setShKind (s.shKind.set i k)).withResult 0)
  | wcoef (stg sel : BitVec 8) (d : Word) (v : Vector Coeffs Config.maxStages) (free : s.commitPending = false) :
      Effect s (.wcoef stg sel d) ((s.setShCoef v).withResult 0)
  | wnst (d : Word) (n : BitVec 8) (free : s.commitPending = false) (le : n.toNat ≤ 20) :
      Effect s (.wnst d) ((s.setShNst n).withResult 0)
  | commit (complete : ∀ i : StageIdx, i.val < s.shNst.toNat → s.shKind[i] ≠ kindNone) :
      Effect s .commit ((s.setCommitPending true).withResult 0)
  | rstst (stg : BitVec 8) (i : StageIdx) :
      Effect s (.rstst stg) ((s.setRstPend (s.rstPend.set i true)).withResult 0)
  | rstall : Effect s .rstall ((s.setRstPend (Vector.replicate Config.maxStages true)).withResult 0)
  | clrst : Effect s .clrst ((clearSticky s).withResult 0)
  | idle : Effect s .idle (s.withOutputs 0 0)
  | sample (l r a b : Word) : Effect s (.sample l r) ((stereoRun hwParams l r s).state.withOutputs a b)
  | boundary : Effect s .boundary ((applyBoundary hwParams s).withOutputs 0 0)
  | sample16 (l r l' r' a b : Word) (d : Bool) :
      Effect s (.sample16 l r) (((stereoRun hwParams l' r' s).state.orDsat d).withOutputs a b)

/-- A command has an effect as soon as the body of it has one wherever its checks pass. -/
theorem effect_of_body {s : State} {i : Instr} {body : Except CmdError (State × Word)}
    (passed : ∀ u w, body = .ok (u, w) → Effect s i (u.withResult w)) :
    ∃ t, runCommand s body = .next t ∧ Effect s i t := by
  rcases body with e | ⟨u, w⟩
  · exact ⟨_, runCommand_error s e, .refused i e⟩
  · exact ⟨_, runCommand_ok s u w, passed u w rfl⟩

theorem kindLegal_of_kindOperand {d : Word} {k : Kind} (h : kindOperand d = .ok k) : KindLegal k := by
  rw [kindOperand] at h
  split at h
  · cases h
  · rename_i le
    obtain rfl := Except.ok.inj h
    refine .inl ?_
    rw [BitVec.extractLsb'_toNat, Nat.shiftRight_zero]
    exact (Nat.mod_le _ _).trans (Nat.not_lt.mp le)

theorem le_of_countOperand {d : Word} {n : BitVec 8} (h : countOperand d = .ok n) : n.toNat ≤ 20 := by
  rw [countOperand] at h
  split at h
  · cases h
  · rename_i le
    obtain rfl := Except.ok.inj h
    rw [BitVec.extractLsb'_toNat, Nat.shiftRight_zero]
    exact (Nat.mod_le _ _).trans (Nat.not_lt.mp le)

theorem free_of_checkFree {s : State} {u : Unit} (h : checkFree s = .ok u) : s.commitPending = false := by
  rw [checkFree] at h
  split at h
  · cases h
  · rename_i free
    exact Bool.not_eq_true _ ▸ free

theorem complete_of_checkComplete {s : State} {u : Unit} (h : checkComplete s = .ok u) :
    ∀ i : StageIdx, i.val < s.shNst.toNat → s.shKind[i] ≠ kindNone := by
  intro i below missing
  rw [checkComplete_error below missing] at h
  cases h

/-- A command that checks and then only reads. -/
theorem effect_of_read {α : Type} {s : State} {i : Instr} {check : Except CmdError α} (read : α → Word) :
    ∃ t, runCommand s (check >>= fun a => pure (s, read a)) = .next t ∧ Effect s i t := by
  refine effect_of_body fun u w passed => ?_
  obtain ⟨a, -, done⟩ := bind_eq_ok passed
  cases done
  exact .answered i _

/-- Every instruction answers a next state, with one of the effects above. -/
theorem exec_effect (i : Instr) (s : State) : ∃ t, exec i s = .next t ∧ Effect s i t := by
  cases i with
  | nop | cvtiq | rstat | rid => exact ⟨_, rfl, .answered _ _⟩
  | lda d => exact ⟨_, exec_lda d s, .lda d⟩
  | qmul d => exact ⟨_, exec_qmul d s, .qmul d _ _⟩
  | mac d => exact ⟨_, exec_mac d s, .mac d _ _⟩
  | msu d => exact ⟨_, exec_msu d s, .msu d _ _⟩
  | aclr => exact ⟨_, exec_aclr s, .aclr⟩
  | ard => exact ⟨_, exec_ard s, .ard _ _⟩
  | ald d => exact ⟨_, exec_ald d s, .ald d _⟩
  | cvtqi d => exact ⟨_, exec_cvtqi d s, .cvtqi d _ _⟩
  | wkind stg d =>
    refine effect_of_body fun u w passed => ?_
    obtain ⟨i, -, passed⟩ := bind_eq_ok passed
    obtain ⟨_, free, passed⟩ := bind_eq_ok passed
    obtain ⟨k, kind, done⟩ := bind_eq_ok passed
    cases done
    exact .wkind stg d i k (free_of_checkFree free) (kindLegal_of_kindOperand kind)
  | wcoef stg sel d =>
    refine effect_of_body fun u w passed => ?_
    obtain ⟨i, -, passed⟩ := bind_eq_ok passed
    obtain ⟨k, -, passed⟩ := bind_eq_ok passed
    obtain ⟨_, free, done⟩ := bind_eq_ok passed
    cases done
    exact .wcoef stg sel d _ (free_of_checkFree free)
  | wnst d =>
    refine effect_of_body fun u w passed => ?_
    obtain ⟨_, free, passed⟩ := bind_eq_ok passed
    obtain ⟨n, count, done⟩ := bind_eq_ok passed
    cases done
    exact .wnst d n (free_of_checkFree free) (le_of_countOperand count)
  | rskind | rakind | rnst =>
    simp only [exec_rskind, exec_rakind, exec_rnst]
    exact effect_of_read _
  | rscoef | racoef | rstate =>
    refine effect_of_body fun u w passed => ?_
    obtain ⟨i, -, passed⟩ := bind_eq_ok passed
    obtain ⟨k, -, done⟩ := bind_eq_ok passed
    cases done
    exact .answered _ _
  | commit =>
    refine effect_of_body fun u w passed => ?_
    obtain ⟨_, complete, done⟩ := bind_eq_ok passed
    cases done
    exact .commit (complete_of_checkComplete complete)
  | rstst stg =>
    refine effect_of_body fun u w passed => ?_
    obtain ⟨i, -, done⟩ := bind_eq_ok passed
    cases done
    exact .rstst stg i
  | rstall => exact ⟨_, exec_rstall s, .rstall⟩
  | clrst => exact ⟨_, exec_clrst s, .clrst⟩
  | idle => exact ⟨_, exec_idle s, .idle⟩
  | sample l r => exact ⟨_, exec_sample l r s, .sample l r _ _⟩
  | boundary => exact ⟨_, exec_boundary s, .boundary⟩
  | sample16 l r => exact ⟨_, exec_sample16 l r s, .sample16 l r _ _ _ _ _⟩

/-- The effect of an instruction from the state it answered. -/
theorem effect_of_exec {i : Instr} {s t : State} (h : exec i s = .next t) : Effect s i t := by
  obtain ⟨u, answered, effect⟩ := exec_effect i s
  obtain rfl : u = t := by simpa [answered] using h
  exact effect

/-- Settles O8: no event, RESET and a refused word answer at once, and every instruction answers by `exec_effect`. -/
theorem everyStepCompletes : Obligations.EveryStepCompletes := by
  unfold Obligations.EveryStepCompletes
  intro s
  rcases pending : s.pending with _ | ⟨_ | _, rest⟩
  · exact ⟨s, step_of_nil pending⟩
  case cons.transaction x =>
    rw [step_of_cons pending, runEvent]
    rcases decoded : decode x with e | i
    · exact ⟨_, runTransaction_error decoded _⟩
    · obtain ⟨t, answered, -⟩ := exec_effect i (s.setPending rest)
      exact ⟨t, (runTransaction_ok decoded _).trans answered⟩
  case cons.reset => exact ⟨_, (step_of_cons pending).trans (runEvent_reset _)⟩

/-! ### What a block boundary leaves of each register (43_chain.md R220) -/

section applyBoundary
variable (P : Config.Params) (s : State)
@[simp] theorem applyBoundary_opa : (applyBoundary P s).opa = s.opa := by rw [applyBoundary_frame]
@[simp] theorem applyBoundary_acc : (applyBoundary P s).acc = s.acc := by rw [applyBoundary_frame]
@[simp] theorem applyBoundary_shCoef : (applyBoundary P s).shCoef = s.shCoef := by rw [applyBoundary_frame]
@[simp] theorem applyBoundary_shKind : (applyBoundary P s).shKind = s.shKind := by rw [applyBoundary_frame]
@[simp] theorem applyBoundary_shNst : (applyBoundary P s).shNst = s.shNst := by rw [applyBoundary_frame]
@[simp] theorem applyBoundary_commitPending : (applyBoundary P s).commitPending = false := by rw [applyBoundary_frame]
@[simp] theorem applyBoundary_err : (applyBoundary P s).err = s.err := by rw [applyBoundary_frame]
@[simp] theorem applyBoundary_errCode : (applyBoundary P s).errCode = s.errCode := by rw [applyBoundary_frame]
@[simp] theorem applyBoundary_sat : (applyBoundary P s).sat = s.sat := by rw [applyBoundary_frame]
@[simp] theorem applyBoundary_pending : (applyBoundary P s).pending = s.pending := by rw [applyBoundary_frame]
end applyBoundary

/-! ### The invariant, over the named updates (10_state.md R26 to R34) -/

section invariant
variable {s : State} (inv : Inv s)
include inv

/-- The invariant reads the two lengths, the two kind memories, the error record, COMMIT_PENDING and ST alone, and of ST
only that the stages without a kind are zero. -/
theorem Inv.congr {t : State} (shNst : t.shNst = s.shNst) (acNst : t.acNst = s.acNst) (shKind : t.shKind = s.shKind)
    (acKind : t.acKind = s.acKind) (err : t.err = s.err) (errCode : t.errCode = s.errCode)
    (commitPending : t.commitPending = s.commitPending)
    (st : ∀ i : StageIdx, s.acKind[i] = kindNone → t.st[i] = zeroStage) : Inv t := by
  obtain ⟨shNst_le, acNst_le, shLegal, acLegal, code_le, none_iff, complete, active, -⟩ := inv
  rw [← shNst] at shNst_le complete
  rw [← acNst] at acNst_le active
  rw [← shKind] at shLegal complete
  rw [← acKind] at acLegal active st
  rw [← errCode] at code_le none_iff
  rw [← err] at none_iff
  rw [← commitPending] at complete
  exact ⟨shNst_le, acNst_le, shLegal, acLegal, code_le, none_iff, complete, active, st⟩

theorem Inv.withResult (w : Word) : Inv (s.withResult w) := inv.congr rfl rfl rfl rfl rfl rfl rfl inv.unapplied_zero

theorem Inv.withOutputs (l r : Word) : Inv (s.withOutputs l r) := inv.congr rfl rfl rfl rfl rfl rfl rfl inv.unapplied_zero

theorem Inv.setOpa (v : Word) : Inv (s.setOpa v) := inv.congr rfl rfl rfl rfl rfl rfl rfl inv.unapplied_zero

theorem Inv.setAcc (v : BitVec Config.accBits) : Inv (s.setAcc v) := inv.congr rfl rfl rfl rfl rfl rfl rfl inv.unapplied_zero

theorem Inv.orSat (b : Bool) : Inv (s.orSat b) := inv.congr rfl rfl rfl rfl rfl rfl rfl inv.unapplied_zero

theorem Inv.orDsat (b : Bool) : Inv (s.orDsat b) := inv.congr rfl rfl rfl rfl rfl rfl rfl inv.unapplied_zero

theorem Inv.setShCoef (v : Vector Coeffs Config.maxStages) : Inv (s.setShCoef v) :=
  inv.congr rfl rfl rfl rfl rfl rfl rfl inv.unapplied_zero

theorem Inv.setRstPend (v : Vector Bool Config.maxStages) : Inv (s.setRstPend v) :=
  inv.congr rfl rfl rfl rfl rfl rfl rfl inv.unapplied_zero

theorem Inv.setPending (v : List Event) : Inv (s.setPending v) := inv.congr rfl rfl rfl rfl rfl rfl rfl inv.unapplied_zero

/-- A refusal records one of the codes 1 to 8, or keeps the one that stands (R34, R271). -/
theorem Inv.refusedWith (e : CmdError) : Inv (refusedWith e.code s) where
  __ := inv
  errCode_le := by
    have code : e.code.toNat ≤ 8 := by cases e <;> decide
    rw [refusedWith_errCode]
    split
    · exact inv.errCode_le
    · exact code
  errCode_none_iff := by
    have code : e.code ≠ 0 := by cases e <;> decide
    rw [refusedWith_errCode]
    refine iff_of_false ?_ (by simp)
    split
    · rename_i latched
      rw [inv.errCode_none_iff, latched]
      decide
    · exact code

theorem Inv.clearSticky : Inv (clearSticky s) where
  __ := inv
  errCode_le := Nat.zero_le 8
  errCode_none_iff := iff_of_true rfl rfl

/-- A shadow kind is written only while no commit is pending, so the pending commit's completeness is not at stake. -/
theorem Inv.setShKind (free : s.commitPending = false) {k : Kind} (legal : KindLegal k) (i : StageIdx) :
    Inv (s.setShKind (s.shKind.set i k)) where
  __ := inv
  shKind_legal j := by
    by_cases e : j = i
    · subst e
      rwa [setShKind_shKind, set_at]
    · rw [setShKind_shKind, set_at_ne _ e]
      exact inv.shKind_legal j
  pending_complete pending := absurd pending (by simp [free])

theorem Inv.setShNst (free : s.commitPending = false) {n : BitVec 8} (le : n.toNat ≤ 20) : Inv (s.setShNst n) where
  __ := inv
  shNst_le := le
  pending_complete pending := absurd pending (by simp [free])

theorem Inv.setCommitPending (complete : ∀ i : StageIdx, i.val < s.shNst.toNat → s.shKind[i] ≠ kindNone) :
    Inv (s.setCommitPending true) where
  __ := inv
  pending_complete _ := complete

/-- A sample runs active stages alone, and those have a kind; a stage without one keeps its zero state (D40). -/
theorem Inv.stereoRun (P : Config.Params) (l r : Word) : Inv (stereoRun P l r s).state := by
  refine inv.congr rfl rfl rfl rfl rfl rfl rfl fun i unapplied => ?_
  rw [stereoRun_st_of_inactive P l r s fun active => inv.active_has_kind i active unapplied]
  exact inv.unapplied_zero i unapplied

theorem Inv.applyResets : Inv (applyResets s) := by
  rw [applyResets_frame]
  refine inv.congr rfl rfl rfl rfl rfl rfl rfl fun i unapplied => ?_
  rw [applyResets_st, inv.unapplied_zero i unapplied, ite_self]

/-- A pending commit is complete, so every stage it makes active has a kind; the other stages keep kind and state, but
for a state reset (R213, D40). -/
theorem Inv.applyBoundary_of_commit (P : Config.Params) (pending : s.commitPending = true) :
    Inv (applyBoundary P s) := by
  have complete := inv.pending_complete pending
  have acNst : (applyBoundary P s).acNst = s.shNst := (Machine.applyBoundary_of_commit P pending).2.2.1
  have stage (i : StageIdx) :
      KindLegal (applyBoundary P s).acKind[i] ∧
      (i.val < s.shNst.toNat → (applyBoundary P s).acKind[i] ≠ kindNone) ∧
      ((applyBoundary P s).acKind[i] = kindNone → (applyBoundary P s).st[i] = zeroStage) := by
    by_cases below : i.val < s.shNst.toNat
    · obtain ⟨-, kind, -⟩ := applyBoundary_below (P := P) pending below
      rw [kind]
      exact ⟨inv.shKind_legal i, complete i, fun missing => absurd missing (complete i below)⟩
    · obtain ⟨-, kind, state⟩ := applyBoundary_above (P := P) pending (Nat.not_lt.mp below)
      rw [kind, state]
      refine ⟨inv.acKind_legal i, fun h => absurd h below, fun unapplied => ?_⟩
      rw [inv.unapplied_zero i unapplied, ite_self]
  exact
    { shNst_le := by simpa using inv.shNst_le
      acNst_le := by simpa [acNst] using inv.shNst_le
      shKind_legal := by simpa using inv.shKind_legal
      acKind_legal := fun i => (stage i).1
      errCode_le := by simpa using inv.errCode_le
      errCode_none_iff := by simpa using inv.errCode_none_iff
      pending_complete := by simp
      active_has_kind := fun i active => (stage i).2.1 (by rwa [acNst] at active)
      unapplied_zero := fun i => (stage i).2.2 }

theorem Inv.applyBoundary (P : Config.Params) : Inv (applyBoundary P s) := by
  rcases pending : s.commitPending with _ | _
  · rw [applyBoundary_of_no_commit P pending]
    exact inv.applyResets
  · exact inv.applyBoundary_of_commit P pending

/-- Every effect of an instruction keeps the invariant. -/
theorem Inv.of_effect {i : Instr} {t : State} (effect : Effect s i t) : Inv t := by
  cases effect with
  | refused _ e => exact inv.refusedWith e
  | answered _ w => exact inv.withResult w
  | lda => exact (inv.setOpa _).withResult _
  | qmul | ard | cvtqi => exact (inv.orSat _).withResult _
  | mac | msu => exact ((inv.setAcc _).orSat _).withResult _
  | aclr | ald => exact (inv.setAcc _).withResult _
  | wkind _ _ i _ free legal => exact (inv.setShKind free legal i).withResult _
  | wcoef => exact (inv.setShCoef _).withResult _
  | wnst _ _ free le => exact (inv.setShNst free le).withResult _
  | commit complete => exact (inv.setCommitPending complete).withResult _
  | rstst | rstall => exact (inv.setRstPend _).withResult _
  | clrst => exact inv.clearSticky.withResult _
  | idle => exact inv.withOutputs _ _
  | sample => exact (inv.stereoRun _ _ _).withOutputs _ _
  | boundary => exact (inv.applyBoundary _).withOutputs _ _
  | sample16 => exact ((inv.stereoRun _ _ _).orDsat _).withOutputs _ _

end invariant

/-- Settles O10: the lengths are 0, and no stage of the reset state has a kind or a state. -/
theorem resetMeetsInvariant : Obligations.ResetMeetsInvariant := by
  unfold Obligations.ResetMeetsInvariant
  exact
    { shNst_le := Nat.zero_le 20
      acNst_le := Nat.zero_le 20
      shKind_legal := fun i => .inr (reset_shKind_stage i)
      acKind_legal := fun i => .inr (reset_acKind_stage i)
      errCode_le := Nat.zero_le 8
      errCode_none_iff := iff_of_true rfl rfl
      pending_complete := nofun
      active_has_kind := fun i active => absurd active (Nat.not_lt_zero _)
      unapplied_zero := fun i _ => reset_st_stage i }

/-- Settles O9: RESET gives the reset state, a refused word a refusal, and an instruction one of its effects. -/
theorem stepKeepsInvariant : Obligations.StepKeepsInvariant := by
  unfold Obligations.StepKeepsInvariant
  intro s t inv h
  obtain ⟨-, rfl⟩ | ⟨e, rest, -, branch⟩ := step_cases h
  · exact inv
  obtain ⟨-, rfl⟩ | ⟨x, i, -, -, executed⟩ | ⟨x, c, -, -, rfl⟩ := branch
  · exact Inv.setPending resetMeetsInvariant rest
  · exact (inv.setPending rest).of_effect (effect_of_exec executed)
  · exact (inv.setPending rest).refusedWith c

/-! ### Steps, refusals and reset (20_memory.md R55, 60_exceptions.md R270 to R275, 70_reset_and_hazards.md R300) -/

/-- Settles O6: by `step_of_cons`, with the model's own name for the state that lost its head event. -/
theorem stepRunsDecodedTransaction : Obligations.StepRunsDecodedTransaction := by
  unfold Obligations.StepRunsDecodedTransaction
  intro s x rest i pending decoded
  rw [step_of_cons pending, runEvent, runTransaction_ok decoded]
  rfl

/-- Settles O7: a refused word is `runTransaction_error`, no event is `step_of_nil`. -/
theorem stepOfRefusedWordOrOfNothing : Obligations.StepOfRefusedWordOrOfNothing := by
  unfold Obligations.StepOfRefusedWordOrOfNothing
  refine ⟨fun s x rest e pending decoded => ?_, fun s => step_of_nil⟩
  rw [step_of_cons pending, runEvent, runTransaction_error decoded]
  rfl

/-- Settles O12: RESET keeps the later events and nothing else of the state. -/
theorem resetEventResets : Obligations.ResetEventResets := by
  unfold Obligations.ResetEventResets
  intro s rest pending
  rw [step_of_cons pending, runEvent_reset]
  rfl

/-- The step that takes an offered transaction is that transaction on the state it was offered in. -/
theorem step_offer (s : State) (x : Transaction) : step (s.offer x) = runTransaction x s :=
  step_of_cons (offer_pending s x)

/-- A transaction that raises ERR was refused, by the decoder or by the instruction itself (R270). -/
theorem refused_of_raises {s t : State} {x : Transaction} (h : runTransaction x s = .next t) (clear : s.err = false)
    (raised : t.err = true) : ∃ e : CmdError, t = refusedWith e.code s := by
  rcases decoded : decode x with e | i
  · rw [runTransaction_error decoded] at h
    exact ⟨e, by simpa using h.symm⟩
  rw [runTransaction_ok decoded] at h
  have notClear : i ≠ .clrst := by
    rintro rfl
    obtain rfl : (clearSticky s).withResult 0 = t := by simpa [exec_clrst] using h
    simp at raised
  obtain ⟨u, answered, effect⟩ := exec_recordKeptOrRefused notClear s
  obtain rfl : u = t := by simpa [answered] using h
  obtain kept | refused := effect
  · obtain ⟨err, -⟩ := Prod.mk.inj kept
    rw [clear, raised] at err
    cases err
  · exact refused

/-- Settles O13: what raised ERR is a refusal, which records one of the eight codes. -/
theorem refusalIsPrecise : Obligations.RefusalIsPrecise := by
  unfold Obligations.RefusalIsPrecise
  intro s t cmd data h clear raised
  rw [step_offer] at h
  obtain ⟨e, rfl⟩ := refused_of_raises h clear raised
  have code : (refusedWith e.code s).errCode = e.code := by rw [refusedWith_errCode, clear, if_neg Bool.false_ne_true]
  refine ⟨rfl, ?_⟩
  rw [code]
  cases e <;> decide

/-! ### The writers of each register (10_state.md R23 to R36) -/

/-- Settles O55: every effect names the registers it writes; a refusal writes ERR, and ERRCODE only where ERR was 0. -/
theorem registersAreWrittenOnlyBy : Obligations.RegistersAreWrittenOnlyBy := by
  unfold Obligations.RegistersAreWrittenOnlyBy
  intro i s t h
  cases effect_of_exec h with
  | refused _ e =>
    have refusal : ∃ e' : CmdError, refusedWith e.code s = refusedWith e'.code s := ⟨e, rfl⟩
    cases latched : s.err <;> simp [latched, refusal]
  | answered | idle => simp
  | lda | qmul | mac | msu | aclr | ard | ald | cvtqi => simp
  | wkind | wcoef | wnst | commit | rstst | rstall | clrst => simp
  | sample | sample16 | boundary => simp

/-! ### The wait for the block boundary (43_chain.md R220, R221) -/

section effect
variable {s t : State} {i : Instr} (effect : Effect s i t)
include effect

/-- No instruction touches the events still to come. -/
theorem Effect.pending_eq : t.pending = s.pending := by
  cases effect <;> simp

/-- An instruction other than BOUNDARY leaves the active bank, and sets but never clears a request (R220). -/
theorem Effect.keepsActive (other : i ≠ .boundary) :
    t.acCoef = s.acCoef ∧ t.acKind = s.acKind ∧ t.acNst = s.acNst ∧
      (s.commitPending = true → t.commitPending = true) ∧
      ∀ j : StageIdx, s.rstPend[j] = true → t.rstPend[j] = true := by
  cases effect with
  | boundary => exact absurd rfl other
  | rstst _ i =>
    refine ⟨rfl, rfl, rfl, id, fun j requested => ?_⟩
    by_cases e : j = i
    · subst e
      exact set_at _ _ _
    · exact (set_at_ne _ e _).trans requested
  | rstall => exact ⟨rfl, rfl, rfl, id, fun j _ => Vector.getElem_replicate j.isLt⟩
  | commit => exact ⟨rfl, rfl, rfl, fun _ => rfl, fun _ => id⟩
  | _ => simp

/-- While a commit is pending no instruction writes the shadow bank: each write is refused with BUSY (R203). -/
theorem Effect.keepsShadow (pending : s.commitPending = true) :
    t.shCoef = s.shCoef ∧ t.shKind = s.shKind ∧ t.shNst = s.shNst := by
  cases effect with
  | wkind _ _ _ _ free | wcoef _ _ _ _ free | wnst _ _ free => simp [pending] at free
  | _ => simp

end effect

/-- What a step that is neither a BOUNDARY nor a RESET can do: nothing, or an effect of another instruction, or the refusal
of a word; the head event is taken. -/
theorem step_keepsActive_cases {s t : State} (keeps : ∀ e rest, s.pending = e :: rest → e.keepsActive)
    (h : step s = .next t) :
    t = s ∨ ∃ e rest i, s.pending = e :: rest ∧ i ≠ .boundary ∧ Effect (s.setPending rest) i t := by
  obtain ⟨-, rfl⟩ | ⟨e, rest, pending, branch⟩ := step_cases h
  · exact .inl rfl
  obtain ⟨notReset, notBoundary⟩ := keeps e rest pending
  obtain ⟨reset, -⟩ | ⟨x, i, rfl, decoded, executed⟩ | ⟨x, c, -, -, rfl⟩ := branch
  · exact absurd reset notReset
  · refine .inr ⟨_, rest, i, pending, ?_, effect_of_exec executed⟩
    rintro rfl
    exact notBoundary (by rw [Event.instr?, decoded, Except.toOption])
  · exact .inr ⟨e, rest, .nop, pending, nofun, .refused .nop c⟩

/-- Settles O53: no effect of an instruction other than BOUNDARY writes the active bank or clears a request. -/
theorem activeBankChangesOnlyAtBoundary : Obligations.ActiveBankChangesOnlyAtBoundary := by
  unfold Obligations.ActiveBankChangesOnlyAtBoundary
  intro s t keeps h
  obtain rfl | ⟨e, rest, i, -, other, effect⟩ := step_keepsActive_cases keeps h
  · exact ⟨rfl, rfl, rfl, id, fun _ => id⟩
  · exact effect.keepsActive other

/-- From `s` to `t` a pending commit stayed pending, and neither bank changed (R221). -/
def CommitWaits (s t : State) : Prop :=
  t.commitPending = true ∧ t.shCoef = s.shCoef ∧ t.shKind = s.shKind ∧ t.shNst = s.shNst ∧
    t.acCoef = s.acCoef ∧ t.acKind = s.acKind ∧ t.acNst = s.acNst

theorem CommitWaits.refl {s : State} (pending : s.commitPending = true) : CommitWaits s s :=
  ⟨pending, rfl, rfl, rfl, rfl, rfl, rfl⟩

theorem CommitWaits.trans {s t u : State} (first : CommitWaits s t) (later : CommitWaits t u) : CommitWaits s u := by
  obtain ⟨-, h1, h2, h3, h4, h5, h6⟩ := first
  rwa [CommitWaits, ← h1, ← h2, ← h3, ← h4, ← h5, ← h6]

/-- One step of the wait: it drops at most the head of the events to come. -/
theorem commitWaits_step {s t : State} (pending : s.commitPending = true) (keeps : ∀ e ∈ s.pending, e.keepsActive)
    (h : step s = .next t) : CommitWaits s t ∧ ∀ e ∈ t.pending, e.keepsActive := by
  obtain rfl | ⟨e, rest, i, events, other, effect⟩ :=
    step_keepsActive_cases (fun e rest head => keeps e (head ▸ List.mem_cons_self)) h
  · exact ⟨.refl pending, keeps⟩
  obtain ⟨acCoef, acKind, acNst, waiting, -⟩ := effect.keepsActive other
  obtain ⟨shCoef, shKind, shNst⟩ := effect.keepsShadow pending
  refine ⟨⟨waiting pending, shCoef, shKind, shNst, acCoef, acKind, acNst⟩, fun e' later => ?_⟩
  rw [effect.pending_eq, setPending_pending] at later
  exact keeps e' (events ▸ List.mem_cons_of_mem e later)

/-- Settles O54: by induction on the number of steps, each of them `commitWaits_step`. -/
theorem pendingCommitWaitsForBoundary : Obligations.PendingCommitWaitsForBoundary := by
  unfold Obligations.PendingCommitWaitsForBoundary
  intro k
  induction k with
  | zero => exact fun s pending _ => ⟨s, rfl, CommitWaits.refl pending⟩
  | succ k ih =>
    intro s pending keeps
    obtain ⟨t, stepped⟩ := everyStepCompletes s
    obtain ⟨first, keeps'⟩ := commitWaits_step pending keeps stepped
    obtain ⟨u, ran, later⟩ := ih t first.1 keeps'
    exact ⟨u, (core_run_succ stepped k).trans ran, first.trans later⟩

end Sys2Proof.Machine

/-! The command words: what decodes is an encoding (30_encoding.md R70, R75), and every word has the outcome that its class
and the order of the refusals give it (60_exceptions.md R271, R272). -/

namespace Sys2Proof.Machine

/-! ### What a command word decodes to encodes to that word (R70, R75) -/

/-- What a row builds is encoded with the row's opcode and the fields it uses, and with DATA, or with 0 where the row
ignores DATA. -/
def RowEncodes (r : OpRow) : Prop :=
  (∀ (stg sel : BitVec 8) (data : Word), encode (r.build stg sel data) =
    encodeCommand r.opc (if r.usesStg then stg else 0) (if r.usesSel then sel else 0) data) ∨
  ∀ (stg sel : BitVec 8) (data : Word), encode (r.build stg sel data) =
    encodeCommand r.opc (if r.usesStg then stg else 0) (if r.usesSel then sel else 0) 0 ∧
      ∀ data' : Word, r.build stg sel data' = r.build stg sel data

theorem rowEncodes_of_mem : ∀ r ∈ opRows, RowEncodes r := by
  simp only [opRows, arithRows, memoryRows, controlRows, List.cons_append, List.nil_append, List.forall_mem_cons]
  refine ⟨?nop, ?lda, ?qmul, ?mac, ?msu, ?aclr, ?ard, ?ald, ?cvtiq, ?cvtqi, ?wkind, ?wcoef, ?wnst, ?rscoef, ?rskind,
    ?rnst, ?racoef, ?rakind, ?rstate, ?commit, ?rstst, ?rstall, ?rstat, ?rid, ?clrst, nofun⟩
  case lda | qmul | mac | msu | ald | cvtiq | cvtqi | wkind | wcoef | wnst => exact .inl fun _ _ _ => rfl
  case nop | aclr | ard | commit | rstst | rstall | rstat | rid | clrst => exact .inr fun _ _ _ => ⟨rfl, fun _ => rfl⟩
  case rscoef | rskind | rnst | racoef | rakind | rstate => exact .inr fun _ _ _ => ⟨rfl, fun _ => rfl⟩

/-- The decoder on a word whose opcode has a row. -/
theorem decode_of_row {cmd : Word} {r : OpRow} (row : rowOf (opcField cmd) = some r) (data : Word) :
    decode (.command cmd data) =
      if r.fieldsClear cmd then .ok (r.build (stgField cmd) (selField cmd) data) else .error .rsvd := by
  rw [decode, decodeCommand, row]

theorem decode_of_no_row {cmd : Word} (none : rowOf (opcField cmd) = none) (data : Word) :
    decode (.command cmd data) = .error .illegalOpcode := by
  rw [decode, decodeCommand, none]

/-- A word that decodes has a row, whose reserved fields are clear, and decodes to what that row builds. -/
theorem row_of_decode {cmd data : Word} {i : Instr} (h : decode (.command cmd data) = .ok i) :
    ∃ r, rowOf (opcField cmd) = some r ∧ r.fieldsClear cmd = true ∧ r.build (stgField cmd) (selField cmd) data = i := by
  rcases row : rowOf (opcField cmd) with _ | r
  · rw [decode_of_no_row row] at h
    cases h
  · rw [decode_of_row row] at h
    split at h
    · rename_i clear
      exact ⟨r, rfl, clear, Except.ok.inj h⟩
    · cases h

/-- A word whose reserved fields are clear for its row is the encoder's word of the fields the row uses. -/
theorem commandWord_of_fieldsClear {r : OpRow} {cmd : Word} (clear : r.fieldsClear cmd = true) :
    commandWord (opcField cmd) (if r.usesStg then stgField cmd else 0) (if r.usesSel then selField cmd else 0) = cmd := by
  obtain ⟨rsv, stg, sel⟩ := (fieldsClear_iff r cmd).mp clear
  have hstg : (if r.usesStg then stgField cmd else 0) = stgField cmd := by
    rw [ite_eq_left_iff]
    exact fun unused => (stg.resolve_left unused).symm
  have hsel : (if r.usesSel then selField cmd else 0) = selField cmd := by
    rw [ite_eq_left_iff]
    exact fun unused => (sel.resolve_left unused).symm
  rw [hstg, hsel]
  exact commandWord_fields cmd rsv

/-- Settles O2: by the row of the word's opcode, and what that row ignores. -/
theorem commandWordHasOneMeaning : Obligations.CommandWordHasOneMeaning := by
  unfold Obligations.CommandWordHasOneMeaning
  intro cmd data i decoded
  obtain ⟨r, row, clear, rfl⟩ := row_of_decode decoded
  have opc : r.opc = opcField cmd := by simpa using List.find?_some row
  have word := commandWord_of_fieldsClear clear
  rcases rowEncodes_of_mem r (List.mem_of_find?_eq_some row) with used | ignored
  · refine ⟨data, ?_, .inl rfl⟩
    rw [used, opc, encodeCommand, word]
  · obtain ⟨encoded, same⟩ := ignored (stgField cmd) (selField cmd) data
    refine ⟨0, by rw [encoded, opc, encodeCommand, word], .inr ⟨rfl, fun data' => ?_⟩⟩
    rw [decode_of_row row, if_pos clear, same]

/-! ### R74 as match and mask pairs (R75) -/

/-- The mask of a row: the opcode and RSV always count, STG and SEL where the row does not use them. -/
def fieldMask (usesStg usesSel : Bool) : Word :=
  0xFF#8 ++ (if usesStg then 0#8 else 0xFF#8) ++ (if usesSel then 0#8 else 0xFF#8) ++ 0xFF#8

theorem bytes_inj {a b c d a' b' c' d' : Byte} :
    a ++ b ++ c ++ d = a' ++ b' ++ c' ++ d' ↔ a = a' ∧ b = b' ∧ c = c' ∧ d = d' := by
  simp only [← BitVec.toNat_inj, toNat_four_bytes]
  omega

theorem word_eq_bytes (cmd : Word) : cmd = opcField cmd ++ stgField cmd ++ selField cmd ++ rsvField cmd := by
  apply BitVec.eq_of_toNat_eq
  rw [toNat_four_bytes, cmd_toNat_fields cmd]

theorem opcode_shifted (opc : BitVec 8) : opc.zeroExtend 32 <<< 24 = opc ++ 0#8 ++ 0#8 ++ 0#8 := by
  apply BitVec.eq_of_toNat_eq
  rw [toNat_four_bytes, BitVec.toNat_shiftLeft, BitVec.toNat_setWidth]
  simp only [Nat.shiftLeft_eq, BitVec.toNat_ofNat]
  omega

theorem byte_and_mask (used : Bool) (b : Byte) : b &&& (if used then 0#8 else 0xFF#8) = 0#8 ↔ used = true ∨ b = 0#8 := by
  cases used with
  | false => simpa using iff_of_eq (congrArg (· = 0#8) (BitVec.and_allOnes (x := b)))
  | true => simp

/-- The match of a row under its mask is the decoder's reserved-field check. -/
theorem masked_eq_iff (r : OpRow) (cmd : Word) :
    cmd &&& fieldMask r.usesStg r.usesSel = (opcField cmd).zeroExtend 32 <<< 24 ↔ r.fieldsClear cmd = true := by
  have whole (b : Byte) : b &&& 0xFF#8 = b := BitVec.and_allOnes
  conv_lhs => lhs; lhs; rw [word_eq_bytes cmd]
  rw [fieldMask, BitVec.and_append, BitVec.and_append, BitVec.and_append, opcode_shifted, bytes_inj, whole, whole,
    byte_and_mask, byte_and_mask, fieldsClear_iff]
  simp only [stgField, selField, rsvField]
  tauto

/-- A row of the match and mask table with the row of the opcode map it stands for: the fields that count, and what the
instruction the row builds does with a field out of range (R71, R272). -/
structure RowAgrees (row : BitVec 8 × Word × Nat) (r : OpRow) : Prop where
  found : rowOf row.1 = some r
  mask : row.2.1 = fieldMask r.usesStg r.usesSel
  badStage : r.usesStg = true → ∀ (stg sel : BitVec 8) (data : Word) (s : State), 20 ≤ stg.toNat →
    exec (r.build stg sel data) s = .next (refusedWith 0x03 s)
  badSelect : r.usesSel = true → ∀ (stg sel : BitVec 8) (data : Word) (s : State), stg.toNat < 20 →
    row.2.2 < sel.toNat → exec (r.build stg sel data) s = .next (refusedWith 0x04 s)
  legal : ∀ (stg sel : BitVec 8) (data : Word), stg.toNat < 20 → sel.toNat ≤ row.2.2 →
    (r.build stg sel data).wellFormed = true

section rows
variable {opc : BitVec 8} {build : BitVec 8 → BitVec 8 → Word → Instr}

/-- A row that uses no field. -/
theorem RowAgrees.plain (found : rowOf opc = some ⟨opc, false, false, build⟩)
    (legal : ∀ stg sel data, (build stg sel data).wellFormed = true) :
    RowAgrees (opc, 0xFFFFFFFF, 0) ⟨opc, false, false, build⟩ where
  found := found
  mask := show (0xFFFFFFFF : Word) = fieldMask false false by decide
  badStage := nofun
  badSelect := nofun
  legal stg sel data _ _ := legal stg sel data

/-- A row that uses STG alone. -/
theorem RowAgrees.stage (found : rowOf opc = some ⟨opc, true, false, build⟩)
    (badStage : ∀ stg sel data s, stageOperand stg = .error .badStage →
      exec (build stg sel data) s = .next (refusedWith 0x03 s))
    (legal : ∀ stg sel data, (build stg sel data).wellFormed = stageInRange stg) :
    RowAgrees (opc, 0xFF00FFFF, 0) ⟨opc, true, false, build⟩ where
  found := found
  mask := show (0xFF00FFFF : Word) = fieldMask true false by decide
  badStage _ stg sel data s h := badStage stg sel data s (stageOperand_error h)
  badSelect := nofun
  legal stg sel data h _ := (legal stg sel data).trans (decide_eq_true h)

/-- A row that uses STG and SEL. -/
theorem RowAgrees.stageAndSelector {top : Nat} (found : rowOf opc = some ⟨opc, true, true, build⟩)
    (badStage : ∀ stg sel data s, stageOperand stg = .error .badStage →
      exec (build stg sel data) s = .next (refusedWith 0x03 s))
    (badSelect : ∀ stg sel data s i, stageOperand stg = .ok i → top < sel.toNat →
      exec (build stg sel data) s = .next (refusedWith 0x04 s))
    (legal : ∀ stg sel data, (build stg sel data).wellFormed = (stageInRange stg && selInRange top sel)) :
    RowAgrees (opc, 0xFF0000FF, top) ⟨opc, true, true, build⟩ where
  found := found
  mask := show (0xFF0000FF : Word) = fieldMask true true by decide
  badStage _ stg sel data s h := badStage stg sel data s (stageOperand_error h)
  badSelect _ stg sel data s h above := badSelect stg sel data s _ (stageOperand_of_lt h) above
  legal stg sel data h le :=
    (legal stg sel data).trans ((Bool.and_eq_true _ _).mpr ⟨decide_eq_true h, decide_eq_true le⟩)

end rows

/-- RNST's row, the only one that uses SEL alone (R206). -/
theorem rowAgrees_rnst : RowAgrees (0x15, 0xFFFF00FF, 1) ⟨0x15, false, true, fun _ k _ => .rnst k⟩ where
  found := rfl
  mask := by decide
  badStage := nofun
  badSelect _ _ _ _ s _ above := runCommand_bind_error (bankOperand_error above) s _
  legal _ _ _ _ le := decide_eq_true le

/-- A command that checks its stage and then its selector is refused with BAD_SELECT for a selector out of range. -/
theorem runCommand_badSelect {α : Type} {stg : BitVec 8} {i : StageIdx} (stage : stageOperand stg = .ok i)
    {select : Except CmdError α} (bad : select = .error .badSelect) (s : State)
    (rest : StageIdx → α → Except CmdError (State × Word)) :
    runCommand s (stageOperand stg >>= fun i => select >>= rest i) = .next (refusedWith 0x04 s) := by
  rw [runCommand_bind_ok stage, runCommand_bind_error bad]
  rfl

theorem rowAgrees_of_mem : ∀ row ∈ r74Rows, ∃ r, RowAgrees row r := by
  simp only [r74Rows, List.forall_mem_cons]
  refine ⟨?nop, ?lda, ?qmul, ?mac, ?msu, ?aclr, ?ard, ?ald, ?cvtiq, ?cvtqi, ?wkind, ?wcoef, ?wnst, ?rscoef, ?rskind,
    ?rnst, ?racoef, ?rakind, ?rstate, ?commit, ?rstst, ?rstall, ?rstat, ?rid, ?clrst, nofun⟩
  case nop | lda | qmul | mac | msu | aclr | ard | ald | cvtiq | cvtqi => exact ⟨_, .plain rfl fun _ _ _ => rfl⟩
  case wnst | commit | rstall | rstat | rid | clrst => exact ⟨_, .plain rfl fun _ _ _ => rfl⟩
  case wkind | rskind | rakind | rstst =>
    exact ⟨_, .stage rfl (fun _ _ _ s bad => runCommand_bind_error bad s _) fun _ _ _ => rfl⟩
  case wcoef | rscoef | racoef =>
    exact ⟨_, .stageAndSelector rfl (fun _ _ _ s bad => runCommand_bind_error bad s _)
      (fun _ _ _ s _ stage above => runCommand_badSelect stage (coefOperand_error above) s _) fun _ _ _ => rfl⟩
  case rstate =>
    exact ⟨_, .stageAndSelector rfl (fun _ _ _ s bad => runCommand_bind_error bad s _)
      (fun _ _ _ s _ stage above => runCommand_badSelect stage (stateOperand_error above) s _) fun _ _ _ => rfl⟩
  case rnst => exact ⟨_, rowAgrees_rnst⟩

/-- An opcode of no row of the table has no row in the opcode map. -/
theorem rowOf_eq_none {opc : BitVec 8} (h : ∀ row ∈ r74Rows, row.1 ≠ opc) : rowOf opc = none := by
  have opcodes : opRows.map OpRow.opc = r74Rows.map Prod.fst := rfl
  rw [rowOf, List.find?_eq_none]
  intro r mem found
  obtain ⟨row, inTable, same⟩ := List.mem_map.mp (opcodes ▸ List.mem_map_of_mem mem)
  exact h row inTable (same.trans (beq_iff_eq.mp found))

/-- Settles O3: the decoder refuses by the opcode and the masked match, the instruction by its stage and its selector. -/
theorem commandWordsClassified : Obligations.CommandWordsClassified := by
  unfold Obligations.CommandWordsClassified
  intro cmd data s
  rw [step_offer]
  refine ⟨fun unknown => ?illegal, fun row mem opcode => ?_⟩
  case illegal =>
    exact runTransaction_error (decode_of_no_row (rowOf_eq_none unknown) data) s
  obtain ⟨r, found, mask, badStage, badSelect, legal⟩ := rowAgrees_of_mem row mem
  have opc : opcField cmd = row.1 := opcode.symm
  rw [← opc] at found
  have matched : cmd &&& row.2.1 = row.1.zeroExtend 32 <<< 24 ↔ r.fieldsClear cmd = true := by
    rw [mask, ← opc, masked_eq_iff]
  have decoded (clear : r.fieldsClear cmd = true) :
      decode (.command cmd data) = .ok (r.build (stgField cmd) (selField cmd) data) := by
    rw [decode_of_row found, if_pos clear]
  rw [matched]
  refine ⟨fun clash => ?rsvd, fun clear above => ?stage, fun clear below above => ?selector, fun clear below le =>
    ⟨_, legal _ _ data below le, decoded clear, runTransaction_ok (decoded clear) s⟩⟩
  case rsvd =>
    have refused : decode (.command cmd data) = .error .rsvd := by
      rw [decode_of_row found, if_neg (mt matched.mpr clash)]
    exact runTransaction_error refused s
  case stage =>
    have used : r.usesStg = true := by
      obtain ⟨-, used | unused, -⟩ := (fieldsClear_iff r cmd).mp clear
      · exact used
      · simp [unused] at above
    rw [runTransaction_ok (decoded clear)]
    exact badStage used _ _ data s above
  case selector =>
    have used : r.usesSel = true := by
      obtain ⟨-, -, used | unused⟩ := (fieldsClear_iff r cmd).mp clear
      · exact used
      · simp [unused] at above
    rw [runTransaction_ok (decoded clear)]
    exact badSelect used _ _ data s below above

end Sys2Proof.Machine

/-! The laws of the multiplier, the accumulator and the conversions (40_mac.md R102, R104 to R107), the corner cases of the
stage step (42_biquad.md R174) and the empty chain (R177). -/

namespace Sys2Proof.Machine

/-! ### Reductions of exact multiples, and how near a reduction is (R9, R101) -/

theorem floorDiv_mul_two_pow (n : Int) (k : Nat) : floorDiv (n * 2 ^ k) k = n :=
  Int.mul_ediv_cancel n (two_pow_int_pos k).ne'

theorem tzDiv_mul_two_pow (n : Int) (k : Nat) : tzDiv (n * 2 ^ k) k = n :=
  Int.mul_tdiv_cancel n (two_pow_int_pos k).ne'

/-- The nearest integer to an integer is that integer. -/
theorem NearestAway.eq_of_mul {n r : Int} {k : Nat} (h : NearestAway (n * 2 ^ k) k r) : r = n := by
  have unit := two_pow_int_pos k
  obtain ⟨near, -⟩ := h
  rw [← sub_mul, abs_mul, abs_of_pos unit] at near
  have lt : |n - r| < 1 := by
    by_contra ge
    have := mul_le_mul_of_nonneg_right (not_lt.mp ge) unit.le
    omega
  rw [Int.abs_lt_one_iff] at lt
  omega

theorem rhaDiv_mul_two_pow (n : Int) {k : Nat} (hk : 0 < k) : rhaDiv (n * 2 ^ k) k = n :=
  (nearestAway_rhaDiv _ hk).eq_of_mul

/-- The reduction of a product by 1.0 is exact under every MUL_ROUND. -/
theorem reduceProduct_mul_one (m : Config.MulRound) (n : Int) : reduceProduct m (n * 2 ^ 28) = n := by
  cases m with
  | floor => exact floorDiv_mul_two_pow n 28
  | towardZero => exact tzDiv_mul_two_pow n 28
  | halfAway => exact rhaDiv_mul_two_pow n (by decide)

theorem tzDiv_near (n : Int) (k : Nat) : |n - tzDiv n k * 2 ^ k| < 2 ^ k := by
  have unit := two_pow_int_pos k
  rw [tzDiv, mul_comm, ← Int.tmod_def, abs_lt]
  exact ⟨Int.lt_tmod_of_pos n unit, Int.tmod_lt_of_pos n unit⟩

/-- Under every MUL_ROUND the reduced product misses the exact quotient by less than one unit. -/
theorem reduceProduct_near (m : Config.MulRound) (p : Int) : |p - reduceProduct m p * 2 ^ 28| < 2 ^ 28 := by
  obtain ⟨⟨le, lt⟩, -, ⟨near, -⟩⟩ := reductionRounds p
  cases m with
  | floor => rw [abs_lt]; omega
  | towardZero => exact tzDiv_near p 28
  | halfAway => omega

/-! ### Saturation of a product (R102) -/

theorem satTo_of_mem {w : Nat} {n : Int} (lo : -(2 ^ (w - 1)) ≤ n) (hi : n ≤ 2 ^ (w - 1) - 1) :
    satTo w n = ⟨BitVec.ofInt w n, false⟩ := by
  rw [satTo_eq, clampTo_of_mem lo hi, decide_eq_false (not_not_intro rfl)]

/-- A value that is already in range is put back unchanged. -/
theorem satTo_toInt {w : Nat} (v : BitVec w) : satTo w v.toInt = ⟨v, false⟩ := by
  have lo := v.le_toInt
  have hi := v.toInt_lt
  rw [satTo_of_mem lo (by omega), BitVec.ofInt_toInt]

theorem qMul_eq_satTo (P : Config.Params) (a b : Word) :
    qMul P a b = satTo 32 (reduceProduct P.mulRound (a.toInt * b.toInt)) := rfl

theorem qMul_sat_eq_false_iff (P : Config.Params) (a b : Word) :
    (qMul P a b).sat = false ↔ -(2 ^ 31) ≤ reduceProduct P.mulRound (a.toInt * b.toInt) ∧
      reduceProduct P.mulRound (a.toInt * b.toInt) ≤ 2 ^ 31 - 1 := by
  rw [qMul_sat, decide_eq_false_iff_not, not_not, clampTo_eq_self_iff]

theorem qMul_word_toInt_of_unsaturated {P : Config.Params} {a b : Word} (h : (qMul P a b).sat = false) :
    (qMul P a b).word.toInt = reduceProduct P.mulRound (a.toInt * b.toInt) := by
  obtain ⟨lo, hi⟩ := (qMul_sat_eq_false_iff P a b).mp h
  rw [qMul_word_toInt, clampTo_of_mem lo hi]

/-- The product of two words, whose magnitude is at most 2^62. -/
theorem abs_word_mul_le (a b : Word) : |a.toInt * b.toInt| ≤ 2 ^ 62 := by
  have bound (v : Word) : |v.toInt| ≤ 2 ^ 31 := by
    have lo := v.le_toInt
    have hi := v.toInt_lt
    exact abs_le.mpr ⟨lo, by omega⟩
  rw [abs_mul]
  exact mul_le_mul (bound a) (bound b) (abs_nonneg _) (by decide)

/-- The top five bits of a 64-bit product are alike exactly where its floored quotient by 2^28 fits 32 bits. -/
theorem top_bits_alike_iff {p : Int} (h : |p| ≤ 2 ^ 62) :
    ((BitVec.ofInt 64 p).extractLsb' 59 5 = 0b00000 ∨ (BitVec.ofInt 64 p).extractLsb' 59 5 = 0b11111) ↔
      -(2 ^ 31) ≤ floorDiv p 28 ∧ floorDiv p 28 ≤ 2 ^ 31 - 1 := by
  obtain ⟨lo, hi⟩ := abs_le.mp h
  have word : ((BitVec.ofInt 64 p).toNat : Int) = p % 2 ^ 64 := by
    rw [BitVec.toNat_ofInt]
    omega
  simp only [← BitVec.toNat_inj, BitVec.extractLsb'_toNat, Nat.shiftRight_eq_div_pow, floorDiv]
  generalize (BitVec.ofInt 64 p).toNat = n at word ⊢
  show n / 2 ^ 59 % 2 ^ 5 = 0 ∨ n / 2 ^ 59 % 2 ^ 5 = 31 ↔ _
  omega

/-- Settles O17: the multiplier is a saturation of the reduced product; under FLOOR its range shows in the top bits. -/
theorem productSaturation : Obligations.ProductSaturation := by
  unfold Obligations.ProductSaturation
  intro P a b
  refine ⟨fun above => ?_, fun below => ?_, fun lo hi => ?_, fun floor => ?_⟩
  · rw [qMul_eq_satTo, satTo, if_pos above]
    rfl
  · rw [qMul_eq_satTo, satTo, if_neg (by omega), if_pos below]
    rfl
  · have unsaturated := (qMul_sat_eq_false_iff P a b).mpr ⟨lo, hi⟩
    exact ⟨unsaturated, qMul_word_toInt_of_unsaturated unsaturated⟩
  · rw [qMul_sat_eq_false_iff, floor, top_bits_alike_iff (abs_word_mul_le a b)]
    rfl

/-! ### The laws of the multiplication (R106) -/

theorem qMul_comm (P : Config.Params) (a b : Word) : qMul P a b = qMul P b a := by
  rw [qMul_eq_satTo, qMul_eq_satTo, mul_comm]

theorem qMul_one (P : Config.Params) (a : Word) : qMul P a 0x10000000 = ⟨a, false⟩ := by
  have one : (0x10000000 : Word).toInt = 2 ^ 28 := by decide
  rw [qMul_eq_satTo, one, reduceProduct_mul_one, satTo_toInt]

theorem word_zero_toInt : (0 : Word).toInt = 0 := by decide

theorem qMul_zero (P : Config.Params) (a : Word) : qMul P a 0 = ⟨0, false⟩ := by
  rw [qMul_eq_satTo, word_zero_toInt, mul_zero, reduceProduct_zero]
  rfl

theorem one_qMul (P : Config.Params) (a : Word) : qMul P 0x10000000 a = ⟨a, false⟩ := by rw [qMul_comm, qMul_one]

theorem zero_qMul (P : Config.Params) (a : Word) : qMul P 0 a = ⟨0, false⟩ := by rw [qMul_comm, qMul_zero]

/-- Operands below 1.0 in magnitude never saturate the product. -/
theorem qMul_unsaturated_of_small (P : Config.Params) {a b : Word} (ha : |a.toInt| < 2 ^ 28) (hb : |b.toInt| < 2 ^ 28) :
    (qMul P a b).sat = false := by
  have product : |a.toInt * b.toInt| ≤ 2 ^ 56 := by
    rw [abs_mul]
    exact mul_le_mul ha.le hb.le (abs_nonneg _) (by decide)
  have near := reduceProduct_near P.mulRound (a.toInt * b.toInt)
  rw [abs_le] at product
  rw [abs_lt] at near
  rw [qMul_sat_eq_false_iff]
  omega

/-- A reduced product that is not zero has the sign of the exact product. -/
theorem sign_reduceProduct {m : Config.MulRound} {p : Int} (h : reduceProduct m p ≠ 0) :
    (reduceProduct m p).sign = p.sign := by
  have near := abs_lt.mp (reduceProduct_near m p)
  rcases lt_or_gt_of_ne h with neg | pos
  · rw [Int.sign_eq_neg_one_of_neg neg, Int.sign_eq_neg_one_of_neg (by omega)]
  · rw [Int.sign_eq_one_of_pos pos, Int.sign_eq_one_of_pos (by omega)]

/-- Settles O18: the fixed corners are evaluated for each MUL_ROUND; the rest are the laws above. -/
theorem multiplicationLaws : Obligations.MultiplicationLaws := by
  unfold Obligations.MultiplicationLaws
  intro P
  refine ⟨qMul_comm P, qMul_one P, qMul_zero P, ?max, ?min, ?mixed, qMul_one P _, ?negated, ?floorBias, ?noBias,
    fun a b => qMul_unsaturated_of_small P, ?sign, ?floorSign⟩
  case max | min | mixed | negated => cases h : P.mulRound <;> rw [qMul_eq_satTo, h] <;> decide
  case floorBias =>
    intro floor
    rw [qMul_eq_satTo, floor]
    decide
  case noBias =>
    intro other
    cases h : P.mulRound with
    | floor => exact absurd h other
    | towardZero | halfAway => rw [qMul_eq_satTo, h]; decide
  case sign =>
    intro a b _ unsaturated nonzero
    have value := qMul_word_toInt_of_unsaturated unsaturated
    rw [value, sign_reduceProduct]
    rw [← value]
    exact fun zero => nonzero (BitVec.eq_of_toInt_eq zero)
  case floorSign =>
    intro a b floor negative
    have le := floorDiv_mul_le (a.toInt * b.toInt) 28
    have value : reduceProduct P.mulRound (a.toInt * b.toInt) = floorDiv (a.toInt * b.toInt) 28 := by rw [floor]; rfl
    rw [qMul_word_toInt, value, clampTo]
    omega

/-! ### The accumulator at full scale (R107) -/

/-- A MAC of the largest FixedValue by 1.0 adds that value to ACC, which saturates. -/
theorem exec_mac_full_scale {s : State} (opa : s.opa = 0x7FFFFFFF) {a : BitVec 40} {b : Bool}
    (sum : satTo 40 (s.acc.toInt + (2 ^ 31 - 1)) = ⟨a, b⟩) :
    exec (.mac 0x10000000) s = .next { s with acc := a, sat := s.sat || b, reply := .result 0 } := by
  have product : qMul hwParams s.opa 0x10000000 = ⟨0x7FFFFFFF, false⟩ := by rw [opa, qMul_one]
  have top : (0x7FFFFFFF : Word).toInt = 2 ^ 31 - 1 := by decide
  have added : accAdd s.acc (2 ^ 31 - 1) = ⟨a, b⟩ := sum
  rw [exec_mac, product, top, added, Bool.false_or]
  rfl

/-- Settles O23: up to 256 products the sum is in the range of 40 bits, and the 257th passes its top. -/
theorem accumulatorHoldsFullScaleProducts : Obligations.AccumulatorHoldsFullScaleProducts := by
  unfold Obligations.AccumulatorHoldsFullScaleProducts
  intro s k opa acc
  have next : (k : Int) * (2 ^ 31 - 1) + (2 ^ 31 - 1) = (k + 1) * (2 ^ 31 - 1) := by ring
  constructor
  · intro lt
    have lo : -(2 ^ (40 - 1)) ≤ ((k : Int) + 1) * (2 ^ 31 - 1) := by omega
    have hi : ((k : Int) + 1) * (2 ^ 31 - 1) ≤ 2 ^ (40 - 1) - 1 := by omega
    refine ⟨_, toInt_ofInt_of_mem (by decide) lo hi, ?_⟩
    rw [exec_mac_full_scale opa (by rw [acc, next, satTo_of_mem lo hi]), Bool.or_false]
  · rintro rfl
    have saturated : satTo 40 (s.acc.toInt + (2 ^ 31 - 1)) = ⟨0x7FFFFFFFFF, true⟩ := by
      rw [acc]
      decide
    rw [exec_mac_full_scale opa saturated, Bool.or_true]

/-! ### The sample conversions (R104, R105) -/

theorem toI16_fromI16 (h : BitVec 16) : toI16 (fromI16 h) = ⟨h, false⟩ := by
  have scaled : (fromI16 h).toInt = h.toInt * 2 ^ 13 := fromI16_toInt h
  rw [toI16, scaled, rhaDiv_mul_two_pow _ (by decide), satTo_toInt]

/-- Settles O29: `ToI16` saturates `rha_div`, which is exact on what `FromI16` scaled. -/
theorem sampleConversionRoundTrip : Obligations.SampleConversionRoundTrip := by
  unfold Obligations.SampleConversionRoundTrip
  exact ⟨fromI16_toInt, fun v => ⟨rhaDiv v.toInt 13, nearestAway_rhaDiv _ (by decide), satTo_eq 16 _⟩, toI16_fromI16⟩

/-- Joining DSAT with no new saturation changes nothing (R36). -/
theorem orDsat_false (s : State) : s.orDsat false = s := by
  rw [State.orDsat, Bool.or_false]
  rfl

/-! ### The empty chain (R177, R302) -/

theorem chainRun_empty (P : Config.Params) (c : Channel) (x : Word) {s : State} (empty : s.acNst = 0) :
    chainRun P c x s = ⟨x, s.st, false⟩ := by
  rw [chainRun, empty, stagesBelow_zero, chainFold_nil]

/-- A stereo sample through an empty chain is its input, and leaves the state as it was. -/
theorem stereoRun_empty (P : Config.Params) (l r : Word) {s : State} (empty : s.acNst = 0) :
    stereoRun P l r s = ⟨s, l, r⟩ := by
  have second : (s.setSt s.st).acNst = 0 := empty
  rw [stereoRun]
  simp only [chainRun_empty P _ _ empty, chainRun_empty P _ _ second, Bool.or_false, orDsat_false]
  rfl

/-- Settles O36: both runs return their inputs, and converting an unchanged sample there and back is exact. -/
theorem emptyChainPassesThrough : Obligations.EmptyChainPassesThrough := by
  unfold Obligations.EmptyChainPassesThrough
  refine fun s empty => ⟨fun P c x => chainRun_empty P c x empty, fun l r => ⟨?_, ?_⟩⟩
  · rw [exec_sample, stereoRun_empty _ _ _ empty]
    rfl
  · simp only [exec_sample16, stereoRun_empty _ _ _ empty, toI16_fromI16, Bool.or_false, orDsat_false]
    rfl

/-! ### Corner cases of the stage step (R174) -/

theorem bqSum_toInt (m : Config.SumMode) (v : Word) : bqSum m v.toInt = ⟨v, false⟩ := by
  cases m with
  | satFinal => exact satTo_toInt v
  | wrap32 =>
    have lo := v.le_toInt
    have hi := v.toInt_lt
    rw [bqSum, BitVec.ofInt_toInt, decide_eq_false (by omega)]

/-- A stage with b1, b2, a1 and a2 zero returns the product by b0 alone. -/
theorem bqStep_gain (P : Config.Params) (b0 a0 x : Word) (S : BqState) :
    bqStep P ⟨b0, 0, 0, a0, 0, 0⟩ S x =
      ⟨(qMul P b0 x).word, ⟨x, S.x1, (qMul P b0 x).word, S.y1⟩, (qMul P b0 x).sat⟩ := by
  have sum : (qMul P b0 x).word.toInt - (0 : Word).toInt + (0 : Word).toInt - (0 : Word).toInt + (0 : Word).toInt =
      (qMul P b0 x).word.toInt := by
    rw [word_zero_toInt]; omega
  simp only [bqStep, zero_qMul, sum, bqSum_toInt, Bool.or_false]

/-- A stage whose only coefficient is a1, fed with zero, returns the negated product by y1. -/
theorem bqStep_feedback (P : Config.Params) (a0 a1 y1 y2 : Word) :
    bqStep P ⟨0, 0, 0, a0, a1, 0⟩ ⟨0, 0, y1, y2⟩ 0 =
      ⟨(bqSum P.sumMode (-(qMul P a1 y1).word.toInt)).word,
        ⟨0, 0, (bqSum P.sumMode (-(qMul P a1 y1).word.toInt)).word, y1⟩,
        (qMul P a1 y1).sat || (bqSum P.sumMode (-(qMul P a1 y1).word.toInt)).sat⟩ := by
  have sum : (0 : Word).toInt - (qMul P a1 y1).word.toInt + (0 : Word).toInt - (0 : Word).toInt + (0 : Word).toInt =
      -(qMul P a1 y1).word.toInt := by
    rw [word_zero_toInt]; omega
  simp only [bqStep, zero_qMul, sum, Bool.or_false, Bool.false_or]

/-- Half of a value of one unit, as each reduction rounds it: FLOOR turns -2^-29 into -2^-28, TOWARD_ZERO into 0. -/
theorem qMul_half_unit (m : Config.SumMode) :
    qMul ⟨.floor, m⟩ 0xF8000000 0xFFFFFFFF = ⟨0x00000000, false⟩ ∧
    qMul ⟨.floor, m⟩ 0xF8000000 0x00000001 = ⟨0xFFFFFFFF, false⟩ ∧
    qMul ⟨.towardZero, m⟩ 0xF8000000 0xFFFFFFFF = ⟨0, false⟩ ∧
    qMul ⟨.towardZero, m⟩ 0xF8000000 0x00000001 = ⟨0, false⟩ := by
  simp only [qMul_eq_satTo]
  decide

/-- Settles O32: identity and zero stages by `bqStep_gain`, the half-gain feedback stage by `bqStep_feedback`. -/
theorem stageStepCornerCases : Obligations.StageStepCornerCases := by
  unfold Obligations.StageStepCornerCases
  refine ⟨fun P a0 x S => ⟨?identity, ?zero⟩, fun P => ?rest, fun P C S b0 => ?fullScale, qMul_half_unit,
    fun m a0 y2 => ?feedback⟩
  case identity => rw [bqStep_gain, one_qMul]
  case zero => rw [bqStep_gain, zero_qMul]
  case rest => rw [bqStep_gain, zero_qMul]
  case fullScale =>
    obtain ⟨-, -, -, saturated, -⟩ := multiplicationLaws P
    rw [b0, saturated]
    refine ⟨rfl, ?_⟩
    simp only [bqStep, b0, saturated, Bool.true_or]
  case feedback =>
    obtain ⟨floorMinus, floorPlus, zeroMinus, zeroPlus⟩ := qMul_half_unit m
    have minusOne : -(0xFFFFFFFF : Word).toInt = (0x00000001 : Word).toInt := by decide
    have zero : -(0 : Word).toInt = (0 : Word).toInt := by decide
    simp only [bqStep_feedback, floorMinus, floorPlus, zeroMinus, zeroPlus, minusOne, zero, bqSum_toInt, Bool.or_false,
      and_self]

end Sys2Proof.Machine

/-! Memory reads after writes (20_memory.md R62, R64), and the laws of a replay and of a repeated commit (43_chain.md R214,
R215, R217). -/

namespace Sys2Proof.Machine

/-! ### Read after write, and what the sample path does not read (R62, R64) -/

/-- The word a coefficient index names after a WCOEF: the written one at its own index, the old one at any other. -/
theorem shCoef_get_set (v : Vector Coeffs Config.maxStages) (i j : StageIdx) (k m : Fin 6) (d : Word) :
    ((v.set i (v[i].put k d))[j]).get m = if j = i ∧ m = k then d else v[j].get m := by
  by_cases stage : j = i
  · subst stage
    rw [set_at]
    by_cases index : m = k
    · subst index
      rw [get_put, if_pos ⟨rfl, rfl⟩]
    · rw [get_put_of_ne _ index, if_neg fun h => index h.2]
  · rw [set_at_ne _ stage, if_neg fun h => stage h.1]

/-- Settles O46: the accepted WCOEF sets one word, and RSCOEF reads the word of its own index. -/
theorem coefficientReadAfterWrite : Obligations.CoefficientReadAfterWrite := by
  unfold Obligations.CoefficientReadAfterWrite
  intro s stg sel stg' sel' d free hstg hsel hstg' hsel'
  let i : StageIdx := ⟨stg.toNat, hstg⟩
  let j : StageIdx := ⟨stg'.toNat, hstg'⟩
  let k : Fin 6 := ⟨sel.toNat, hsel⟩
  let m : Fin 6 := ⟨sel'.toNat, hsel'⟩
  have same : (j = i ∧ m = k) ↔ stg' = stg ∧ sel' = sel := by
    simp only [i, j, k, m, Fin.mk.injEq, BitVec.toNat_inj]
  refine ⟨_, _, exec_wcoef_ok free (i := i) (k := k) rfl rfl d, exec_rscoef_ok _ (i := j) (k := m) rfl rfl,
    fun equal => ?_, fun other => ?_⟩
  · rw [withResult_shCoef, setShCoef_shCoef, shCoef_get_set, if_pos (same.mpr equal)]
  · rw [withResult_shCoef, setShCoef_shCoef, shCoef_get_set, if_neg (mt same.mp other)]
    exact exec_rscoef_ok s rfl rfl

/-- Settles O38: the chain runs read the active bank and ST, and the shadow bank is copied. -/
theorem shadowBankIsNotSeen : Obligations.ShadowBankIsNotSeen := by
  unfold Obligations.ShadowBankIsNotSeen
  exact fun s c k n l r => ⟨⟨_, exec_sample l r s, rfl⟩, ⟨_, exec_sample16 l r s, rfl⟩⟩

/-! ### The closed form of a replay (R215, R217) -/

/-- A stage step from zeroed state returns the product by b0, put back as a sum. -/
theorem bqStep_zeroBq (P : Config.Params) (C : Coeffs) (x : Word) :
    (bqStep P C zeroBq x).lane = ⟨x, 0, (bqSum P.sumMode (qMul P C.b0 x).word.toInt).word, 0⟩ := by
  have sum : (qMul P C.b0 x).word.toInt - (0 : Word).toInt + (0 : Word).toInt - (0 : Word).toInt + (0 : Word).toInt =
      (qMul P C.b0 x).word.toInt := by
    rw [word_zero_toInt]; omega
  simp only [bqStep, zeroBq, qMul_zero, sum]

/-- The second step of a replay starts from one input and one output, so a2 and b2 do not enter. -/
theorem bqStep_one_past (P : Config.Params) (C : Coeffs) (x1 y1 x : Word) :
    (bqStep P C ⟨x1, 0, y1, 0⟩ x).lane =
      ⟨x, x1, (bqSum P.sumMode ((qMul P C.b0 x).word.toInt - (qMul P C.a1 y1).word.toInt +
        (qMul P C.b1 x1).word.toInt)).word, y1⟩ := by
  simp only [bqStep, qMul_zero, word_zero_toInt, sub_zero, add_zero]

theorem replaySteps_lane (P : Config.Params) (C : Coeffs) (old : BqState) {ya : Word}
    (hya : ya = (bqSum P.sumMode (qMul P C.b0 old.x2).word.toInt).word) :
    (replaySteps P C old).2.lane =
      ⟨old.x1, old.x2, (bqSum P.sumMode ((qMul P C.b0 old.x1).word.toInt - (qMul P C.a1 ya).word.toInt +
        (qMul P C.b1 old.x2).word.toInt)).word, ya⟩ := by
  rw [replaySteps, bqStep_zeroBq, ← hya, bqStep_one_past]

/-- A replay of zero inputs leaves zero. -/
theorem replaySteps_lane_of_zero (P : Config.Params) (C : Coeffs) {old : BqState} (x1 : old.x1 = 0) (x2 : old.x2 = 0) :
    (replaySteps P C old).2.lane = ⟨0, 0, 0, 0⟩ := by
  have sumZero : bqSum P.sumMode 0 = ⟨0, false⟩ := bqSum_toInt P.sumMode 0
  have first : (0 : Word) = (bqSum P.sumMode (qMul P C.b0 old.x2).word.toInt).word := by
    rw [x2, qMul_zero, word_zero_toInt, sumZero]
  rw [replaySteps_lane P C old first, x1, x2]
  simp only [qMul_zero, word_zero_toInt, sub_zero, add_zero, sumZero]

theorem replay_st_at (P : Config.Params) (i : StageIdx) (c : Channel) (s : State) :
    (replay P i c s).st[i] = s.st[i].putLane c (replaySteps P s.acCoef[i] (s.st[i].lane c)).2.lane := by
  rw [replay_eq]
  exact set_at _ _ _

/-- Settles O51: a replay writes the one lane, with the two steps whose closed forms stand above. -/
theorem replayClosedForm : Obligations.ReplayClosedForm := by
  unfold Obligations.ReplayClosedForm
  intro P s i c ya yb hya hyb
  refine ⟨?_, fun x1 x2 => ?_, fun d other => ?_, fun j other => ?_⟩
  · rw [replay_st_at, putLane_lane, replaySteps_lane P _ _ hya, ← hyb]
  · rw [replay_st_at, putLane_lane, replaySteps_lane_of_zero P _ x1 x2]
  · rw [replay_st_at, putLane_lane_of_ne _ other]
  · rw [replay_eq]
    exact set_at_ne _ other _

/-! ### A repeated commit (R214) -/

theorem set_self {α : Type} (v : Vector α Config.maxStages) (i : StageIdx) : v.set i v[i] = v := by
  refine vector_ext fun j => ?_
  by_cases e : j = i
  · subst e
    exact set_at _ _ _
  · exact set_at_ne _ e _

/-- The configuration of stage `i` in the shadow bank is the one that is active. -/
def StageApplied (s : State) (i : StageIdx) : Prop := s.acCoef[i] = s.shCoef[i] ∧ s.acKind[i] = s.shKind[i]

/-- Reconfiguring a stage whose configuration is already active changes nothing: no replay is due (R214 c). -/
theorem reconfigure_of_applied (P : Config.Params) {s : State} {i : StageIdx} (applied : StageApplied s i) :
    reconfigure P s i = s := by
  obtain ⟨coef, kind⟩ := applied
  have notDue : ¬ needsReplay s i = true := by
    rw [needsReplay_iff]
    rintro (changed | ⟨-, changed⟩)
    · exact changed kind.symm
    · exact changed coef.symm
  rw [reconfigure, if_neg notDue, ← coef, ← kind, set_self, set_self]
  rfl

theorem foldl_reconfigure_of_applied (P : Config.Params) {s : State} (l : List StageIdx)
    (applied : ∀ i ∈ l, StageApplied s i) : l.foldl (reconfigure P) s = s := by
  induction l with
  | nil => rfl
  | cons i rest ih =>
    rw [List.foldl_cons, reconfigure_of_applied P (applied i List.mem_cons_self)]
    exact ih fun j later => applied j (List.mem_cons_of_mem i later)

/-- A BOUNDARY with a commit pending changes nothing but COMMIT_PENDING where the whole configuration is already active
and no state reset is requested. -/
theorem applyBoundary_of_applied (P : Config.Params) {s : State} (pending : s.commitPending = true)
    (applied : ∀ i : StageIdx, i.val < s.shNst.toNat → StageApplied s i) (length : s.acNst = s.shNst)
    (unrequested : ∀ i : StageIdx, s.rstPend[i] = false) : applyBoundary P s = s.setCommitPending false := by
  have committed : applyCommit P s = s := by
    rw [applyCommit, foldl_reconfigure_of_applied P _ fun i h => applied i (mem_stagesBelow.mp h), ← length]
    rfl
  rw [applyBoundary, if_pos pending, committed]
  exact applyResets_of_none unrequested

/-- Settles O52: the first BOUNDARY made the configuration active and cleared every request. -/
theorem secondCommitChangesNothing : Obligations.SecondCommitChangesNothing := by
  unfold Obligations.SecondCommitChangesNothing
  intro s r pending
  refine ⟨_, exec_boundary s, ?_⟩
  obtain ⟨-, -, acNst, -, -⟩ := applyBoundary_of_commit hwParams pending
  have length : (applyBoundary hwParams s).acNst = (applyBoundary hwParams s).shNst := by
    rw [acNst, applyBoundary_shNst]
  have applied (i : StageIdx) (below : i.val < (applyBoundary hwParams s).shNst.toNat) :
      StageApplied (applyBoundary hwParams s) i := by
    rw [applyBoundary_shNst] at below
    obtain ⟨coef, kind, -⟩ := applyBoundary_below (P := hwParams) pending below
    exact ⟨by rw [coef, applyBoundary_shCoef], by rw [kind, applyBoundary_shKind]⟩
  have unrequested := applyBoundary_rstPend hwParams s
  have notPending := applyBoundary_commitPending hwParams s
  generalize applyBoundary hwParams s = t at length applied unrequested notPending ⊢
  have second := applyBoundary_of_applied hwParams (s := { t.withOutputs 0 0 with commitPending := true, reply := r }) rfl
    applied length unrequested
  rw [exec_boundary, second]
  cases t
  cases notPending
  rfl

end Sys2Proof.Machine

/-! The host's real conversions (41_host_derivation.md R150, R151). -/

namespace Sys2Proof.Machine

/-! ### FromDouble (R150) -/

theorem fromDouble_of_finite {d : BitVec 64} (finite : doubleExponent d ≠ 2047) :
    fromDouble d = some (BitVec.ofInt 32 (clampTo 32 (scaledDouble d))) := by
  rw [fromDouble, if_neg finite, satTo_eq]

/-- From exponent 1047 on the float is an integer number of units. -/
theorem scaledDouble_of_ge {d : BitVec 64} (h : 1047 ≤ doubleExponent d) :
    scaledDouble d = doubleSignificand d * 2 ^ (doubleExponent d - 1047) := by
  rw [scaledDouble, max_eq_left (by omega), if_pos h]

/-- Below exponent 1047 the float has fractional bits, which `rha_div` removes. -/
theorem scaledDouble_of_lt {d : BitVec 64} (h : doubleExponent d < 1047) :
    scaledDouble d = rhaDiv (doubleSignificand d) (1047 - max (doubleExponent d) 1) := by
  rw [scaledDouble, if_neg (by omega)]

/-- Settles O59: exact above exponent 1046, `rha_div` below; the infinities are evaluated, a NaN has a fraction. -/
theorem fromDoubleRounds : Obligations.FromDoubleRounds := by
  unfold Obligations.FromDoubleRounds
  refine ⟨fun d finite ge => ?_, fun d lt => ⟨_, nearestAway_rhaDiv _ (by omega), ?_⟩, by decide, by decide,
    fun d top nan => ?_⟩
  · rw [fromDouble_of_finite finite.ne, scaledDouble_of_ge ge]
  · rw [fromDouble_of_finite (by omega), scaledDouble_of_lt lt]
  · rw [fromDouble, if_pos top, if_neg nan]

/-! ### FromDouble of ToDouble (R151) -/

/-- A float built from its three fields. -/
def packDouble (sign : Bool) (exponent fraction : Nat) : BitVec 64 :=
  BitVec.ofBool sign ++ BitVec.ofNat 11 exponent ++ BitVec.ofNat 52 fraction

theorem doubleSign_packDouble (sign : Bool) (e f : Nat) : doubleSign (packDouble sign e f) = sign := by
  rw [doubleSign, packDouble, BitVec.getLsbD_append, BitVec.getLsbD_append]
  simp

theorem doubleExponent_packDouble (sign : Bool) {e : Nat} (he : e < 2 ^ 11) (f : Nat) :
    doubleExponent (packDouble sign e f) = e := by
  rw [doubleExponent, packDouble, BitVec.extractLsb'_append_eq_of_le (by decide),
    BitVec.extractLsb'_append_eq_of_add_le (by decide), BitVec.extractLsb'_eq_self, BitVec.toNat_ofNat,
    Nat.mod_eq_of_lt he]

theorem doubleFraction_packDouble (sign : Bool) (e : Nat) {f : Nat} (hf : f < 2 ^ 52) :
    doubleFraction (packDouble sign e f) = f := by
  rw [doubleFraction, packDouble, BitVec.extractLsb'_append_eq_of_add_le (by decide), BitVec.extractLsb'_eq_self,
    BitVec.toNat_ofNat, Nat.mod_eq_of_lt hf]

/-- The float of a FixedValue that is not zero: its significand is the magnitude, shifted to 53 bits. -/
theorem toDouble_of_ne_zero {v : Word} (h : v.toInt.natAbs ≠ 0) :
    toDouble v = packDouble v.msb (Nat.log2 v.toInt.natAbs + 995)
      ((v.toInt.natAbs - 2 ^ Nat.log2 v.toInt.natAbs) * 2 ^ (52 - Nat.log2 v.toInt.natAbs)) := by
  rw [toDouble, if_neg h, packDouble]

/-- A normalized magnitude: with `p` the place of its top bit, shifting it to 53 bits makes it `2^52` and a fraction. -/
theorem normalized_fraction {m p : Nat} (hp : p ≤ 52) (lo : 2 ^ p ≤ m) (hi : m < 2 ^ (p + 1)) :
    (m - 2 ^ p) * 2 ^ (52 - p) < 2 ^ 52 ∧ (m - 2 ^ p) * 2 ^ (52 - p) + 2 ^ 52 = m * 2 ^ (52 - p) := by
  have top : 2 ^ p * 2 ^ (52 - p) = 2 ^ 52 := by rw [← pow_add, Nat.add_sub_of_le hp]
  have sum : (m - 2 ^ p) * 2 ^ (52 - p) + 2 ^ 52 = m * 2 ^ (52 - p) := by
    rw [← top, ← add_mul, Nat.sub_add_cancel lo]
  have lt : m * 2 ^ (52 - p) < 2 ^ (p + 1) * 2 ^ (52 - p) := Nat.mul_lt_mul_of_pos_right hi (Nat.two_pow_pos _)
  rw [pow_succ, mul_right_comm, top] at lt
  omega

theorem doubleSignificand_of_normal {d : BitVec 64} (normal : doubleExponent d ≠ 0) :
    doubleSignificand d =
      if doubleSign d then -((doubleFraction d : Int) + 2 ^ 52) else (doubleFraction d : Int) + 2 ^ 52 := by
  simp only [doubleSignificand, if_neg normal]

/-- The scaled float of a packed magnitude is that magnitude with its sign. -/
theorem scaledDouble_packDouble (sign : Bool) {m p : Nat} (hp : p ≤ 31) (lo : 2 ^ p ≤ m) (hi : m < 2 ^ (p + 1)) :
    scaledDouble (packDouble sign (p + 995) ((m - 2 ^ p) * 2 ^ (52 - p))) = if sign then -(m : Int) else m := by
  obtain ⟨small, sum⟩ := normalized_fraction (by omega : p ≤ 52) lo hi
  have exponent := doubleExponent_packDouble sign (e := p + 995) (by omega) ((m - 2 ^ p) * 2 ^ (52 - p))
  have significand : doubleSignificand (packDouble sign (p + 995) ((m - 2 ^ p) * 2 ^ (52 - p))) =
      (if sign then -(m : Int) else m) * 2 ^ (52 - p) := by
    have magnitude : (((m - 2 ^ p) * 2 ^ (52 - p) : Nat) : Int) + 2 ^ 52 = m * 2 ^ (52 - p) := by exact_mod_cast sum
    rw [doubleSignificand_of_normal (by omega), doubleFraction_packDouble sign _ small, doubleSign_packDouble, magnitude]
    cases sign with
    | false => rfl
    | true => exact (Int.neg_mul _ _).symm
  have shift : 1047 - max (p + 995) 1 = 52 - p := by omega
  rw [scaledDouble_of_lt (by omega), exponent, shift, significand, rhaDiv_mul_two_pow _ (by omega)]

theorem scaledDouble_toDouble (v : Word) : scaledDouble (toDouble v) = v.toInt ∧ doubleExponent (toDouble v) ≠ 2047 := by
  by_cases zero : v.toInt.natAbs = 0
  · have exponent : doubleExponent 0 = 0 := by decide
    have significand : doubleSignificand 0 = 0 := by decide
    have float : toDouble v = 0 := by rw [toDouble, if_pos zero]
    rw [float, scaledDouble_of_lt (by omega), significand, exponent, rhaDiv, Int.sign_zero, zero_mul,
      Int.natAbs_eq_zero.mp zero]
    exact ⟨rfl, by decide⟩
  have lo : 2 ^ Nat.log2 v.toInt.natAbs ≤ v.toInt.natAbs := Nat.log2_self_le zero
  have hi : v.toInt.natAbs < 2 ^ (Nat.log2 v.toInt.natAbs + 1) := Nat.lt_log2_self
  have hp : Nat.log2 v.toInt.natAbs ≤ 31 := by
    have := v.le_toInt
    have := v.toInt_lt
    exact Nat.lt_succ_iff.mp ((Nat.log2_lt zero).mpr (by omega))
  rw [toDouble_of_ne_zero zero]
  constructor
  · rw [scaledDouble_packDouble _ hp lo hi, BitVec.msb_eq_toInt]
    by_cases negative : v.toInt < 0
    · rw [decide_eq_true negative, if_pos rfl]
      omega
    · rw [decide_eq_false negative, if_neg Bool.false_ne_true]
      omega
  · rw [doubleExponent_packDouble _ (by omega)]
    omega

/-- Settles O60: the float of a FixedValue stands for it exactly, and a value in range is not saturated. -/
theorem realConversionRoundTrip : Obligations.RealConversionRoundTrip := by
  unfold Obligations.RealConversionRoundTrip
  intro v
  obtain ⟨scaled, finite⟩ := scaledDouble_toDouble v
  rw [fromDouble, if_neg finite, scaled, satTo_toInt]

end Sys2Proof.Machine
